-- ==== Sys2Proof/Word.lean ====
section
/-! DEFINITION. The word types of HCE: what the spec treats as bits (00_scope.md R11). -/

namespace Sys2Proof

/-- A 32-bit register or command word (10_state.md R21). -/
abbrev Word := BitVec 32

/-- A 16-bit field: a CRC, a length, a span offset (40_checksum.md R101, 10_state.md R40). -/
abbrev Half := BitVec 16

/-- A byte of BUF or of a frame (10_state.md R51). -/
abbrev Byte := BitVec 8

end Sys2Proof
end

