-- ==== Sys2Proof/Config.lean ====
section
/-! DEFINITION. The parameters of HCE (00_scope.md R10) and its free values. Nothing here changes as the machine
runs. BUF_SIZE and ID_VALUE are a structure that State carries and no step changes, so that every statement about all
states is about every value of them (log 1). BASE and the draw of the unwritten BUF bytes are opaque: nothing in Lean can
evaluate them. -/

namespace Sys2Proof

/-- The parameters a model takes as arguments (00_scope.md R10, 92_eei_decisions.md D4, D34). -/
structure Config where
  /-- BUF_SIZE: bytes of buffer RAM; a multiple of 4 in 16..65536 (`Config.wf` in WellFormed.lean). -/
  bufSize : Nat
  /-- ID_VALUE: what the ID register reads as (10_state.md R22). -/
  idValue : Word
deriving DecidableEq, Repr

/-- The values this spec decides (00_scope.md R10): BUF_SIZE = 4096, ID_VALUE = 0x48434507. -/
def Config.hce : Config where
  bufSize := 4096
  idValue := 0x48434507

/-- The number of the 0x20000-byte page of the bus that holds the window. OPEN: the platform decides it
(20_memory.md R60, R70); a free value (log 1). -/
opaque Config.basePage : Nat

/-- BASE, the bus address of the window, aligned to 0x20000 (20_memory.md R60). -/
def Config.base : Nat := Config.basePage * 0x20000

/-- The byte at a BUF offset that nothing has written since a hardware reset: "an arbitrary value after reset, a draw
under no law" (70_reset_and_hazards.md R281). The first argument tells one hardware reset's draw from another's, the
second is the buffer offset. A free value (log 2). -/
opaque Config.bufDraw : Nat → Nat → Byte

end Sys2Proof
end

