-- ==== Sys2Proof/Syntax.lean ====
section
/-! DEFINITION. The commands of HCE: one constructor per row of spec/opcode_table.json. A command word has no operand
fields (30_encoding.md R81), so no constructor has an argument. -/

namespace Sys2Proof

/-- The 24 defined commands (30_encoding.md R82). -/
inductive Instr where
  -- control, family 0x0 (44_control.md)
  | nop | sreset
  -- checksum, family 0x1 (40_checksum.md)
  | xor8 | crc16 | accClr | accFeed | accSpan
  -- field codec, family 0x2 (41_field_codec.md)
  | packTbl | unpackTbl | split16 | join16
  | put16le | get16le | put32le | get32le | put16be | get16be
  | attEnc | attDec | scale | unscale
  -- frame, family 0x3 (42_frame_builder.md, 43_response_validator.md)
  | build | buildRec | parse
deriving DecidableEq, Repr

/-- Every command, in the order of 30_encoding.md R81's table. -/
def Instr.all : List Instr :=
  [.nop, .sreset, .xor8, .crc16, .accClr, .accFeed, .accSpan, .packTbl, .unpackTbl, .split16, .join16, .put16le,
   .get16le, .put32le, .get32le, .put16be, .get16be, .attEnc, .attDec, .scale, .unscale, .build, .buildRec, .parse]

end Sys2Proof
end

