-- ==== Sys2Proof/WellFormed.lean ====
section
/-! DEFINITION. What well-formed means: for the parameters (00_scope.md R10), for a command word (30_encoding.md R82)
and for a command. A command has no operands, so every command is well formed; what can be ill formed is a word that
stands for none, or a parameter outside its range. -/

namespace Sys2Proof

/-- BUF_SIZE's legal values: "a multiple of 4 from 16 to 65536" (00_scope.md R10). -/
def Config.wf (c : Config) : Bool :=
  decide (c.bufSize % 4 = 0) && decide (16 ≤ c.bufSize) && decide (c.bufSize ≤ 65536)

/-- R82's list of opcode bytes: 0x00, 0x01; 0x10 to 0x14; 0x20 to 0x2D; 0x30, 0x31, 0x38. -/
def opcodeDefined (op : Byte) : Bool :=
  decide (op.toNat ≤ 0x01)
    || (decide (0x10 ≤ op.toNat) && decide (op.toNat ≤ 0x14))
    || (decide (0x20 ≤ op.toNat) && decide (op.toNat ≤ 0x2D))
    || op == 0x30 || op == 0x31 || op == 0x38

/-- A command word selects a defined command exactly when RSVD is 0 and OPCODE is defined (30_encoding.md R82). -/
def wordDefined (w : Word) : Bool :=
  w.extractLsb' 8 24 == 0 && opcodeDefined (w.extractLsb' 0 8)

/-- Every command is well formed: the command word has no operand fields and no immediates (30_encoding.md R81). -/
def Instr.wf : Instr → Bool
  | .nop | .sreset | .xor8 | .crc16 | .accClr | .accFeed | .accSpan | .packTbl | .unpackTbl | .split16 | .join16
  | .put16le | .get16le | .put32le | .get32le | .put16be | .get16be | .attEnc | .attDec | .scale | .unscale | .build
  | .buildRec | .parse => true

end Sys2Proof
end

