-- ==== Sys2Proof/Decode.lean ====
section
/-! DEFINITION. Decoding a command word (30_encoding.md R80 to R83) and, after it, encoding a command. -/

namespace Sys2Proof

/-- Why a word stands for no command, in the order 30_encoding.md R83 checks. -/
inductive DecodeReject where
  /-- CMD[31:8] is not 0 (R83 (1)); carries those bits. -/
  | reservedBits (bits : BitVec 24)
  /-- CMD[31:8] is 0 and CMD[7:0] is no defined opcode (R83 (2)); carries the opcode byte. -/
  | undefinedOpcode (op : Byte)
deriving DecidableEq, Repr

/-- OPCODE, bits [7:0] of a command word (R80). -/
def opcodeField (w : Word) : Byte := w.extractLsb' 0 8

/-- RSVD, bits [31:8] of a command word (R80). -/
def rsvdField (w : Word) : BitVec 24 := w.extractLsb' 8 24

/-- The command of an opcode byte (R81's table). -/
def decodeOpcode (op : Byte) : Option Instr :=
  match op.toNat with
  | 0x00 => some .nop
  | 0x01 => some .sreset
  | 0x10 => some .xor8
  | 0x11 => some .crc16
  | 0x12 => some .accClr
  | 0x13 => some .accFeed
  | 0x14 => some .accSpan
  | 0x20 => some .packTbl
  | 0x21 => some .unpackTbl
  | 0x22 => some .split16
  | 0x23 => some .join16
  | 0x24 => some .put16le
  | 0x25 => some .get16le
  | 0x26 => some .put32le
  | 0x27 => some .get32le
  | 0x28 => some .put16be
  | 0x29 => some .get16be
  | 0x2A => some .attEnc
  | 0x2B => some .attDec
  | 0x2C => some .scale
  | 0x2D => some .unscale
  | 0x30 => some .build
  | 0x31 => some .buildRec
  | 0x38 => some .parse
  | _ => none

/-- The command a word stands for, or why it stands for none (R82, R83): reserved bits first, then the opcode. -/
def decode (w : Word) : Except DecodeReject Instr :=
  if rsvdField w ≠ 0 then .error (.reservedBits (rsvdField w))
  else match decodeOpcode (opcodeField w) with
    | some i => .ok i
    | none => .error (.undefinedOpcode (opcodeField w))

/-- The opcode byte of a command (R81's table). -/
def opcodeOf : Instr → Byte
  | .nop => 0x00
  | .sreset => 0x01
  | .xor8 => 0x10
  | .crc16 => 0x11
  | .accClr => 0x12
  | .accFeed => 0x13
  | .accSpan => 0x14
  | .packTbl => 0x20
  | .unpackTbl => 0x21
  | .split16 => 0x22
  | .join16 => 0x23
  | .put16le => 0x24
  | .get16le => 0x25
  | .put32le => 0x26
  | .get32le => 0x27
  | .put16be => 0x28
  | .get16be => 0x29
  | .attEnc => 0x2A
  | .attDec => 0x2B
  | .scale => 0x2C
  | .unscale => 0x2D
  | .build => 0x30
  | .buildRec => 0x31
  | .parse => 0x38

/-- The word of a command: `zext_32(opcode(m))` (30_encoding.md R85). -/
def encode (i : Instr) : Word := (opcodeOf i).setWidth 32

/-- The command read from an instruction of `nbits` bits numbered as spec/opcode_table.json numbers them; the bits above
`nbits` are 0. HCE has no prefixed or longer forms (R84), so bits above the command word stand for nothing. -/
def decodeTableWord (nbits w : Nat) : Option Instr :=
  match decode (BitVec.ofNat 32 (w % 2 ^ nbits)) with
  | .ok i => some i
  | .error _ => none

end Sys2Proof
end

