-- ==== Sys2Proof/Machine/Regs.lean ====
section
/-! DEFINITION. The registers of 10_state.md section 2, each at the width its row of the map uses: a reserved bit has no
storage, reads as 0 and ignores writes (R21, log 9). ID, CMD and BUFSZ hold nothing of their own (Bus.lean reads them). -/

namespace Sys2Proof.Machine

/-- The fields of STATUS (10_state.md R24). BUSY is also the engine's busy condition (R47): it is stored once, here. -/
structure Status where
  /-- bit 0, RO: 1 from the CMD write until that command completes -/
  busy : Bool
  /-- bit 1, W1C: set at every completion -/
  done : Bool
  /-- bit 2, W1C: set at every completion with error -/
  err : Bool
  /-- bits [11:8], RO: the error code of the last completed command -/
  errCode : BitVec 4
  /-- bits [23:16], RO: CMD[7:0] of the last completed command -/
  lastOp : Byte
deriving DecidableEq, Repr

/-- The window's registers. -/
structure Regs where
  /-- CTRL 0x004: bit 0 IRQ_EN, bit 1 RXCK_EN (R23) -/
  ctrl : BitVec 2
  /-- STATUS 0x008 (R24) -/
  status : Status
  /-- ERR_EXP 0x010 (R26) -/
  errExp : Word
  /-- ERR_ACT 0x014 (R26) -/
  errAct : Word
  /-- ARG0 0x018 (R27) -/
  arg0 : Word
  /-- ARG1 0x01C (R27) -/
  arg1 : Word
  /-- RES0 0x020 (R28) -/
  res0 : Word
  /-- RES1 0x024 (R28) -/
  res1 : Word
  /-- CRC_CFG 0x028: INIT [15:0], XOROUT [31:16] (R29) -/
  crcCfg : Word
  /-- CRC_ACC 0x02C (R30) -/
  crcAcc : Half
  /-- XOR_ACC 0x030 (R30) -/
  xorAcc : Byte
  /-- STEP 0x034 (R31) -/
  stepSize : Word
  /-- FRAME_MAX 0x038 (R32) -/
  frameMax : Half
  /-- OK_CODE 0x03C (R33) -/
  okCode : Byte
  /-- DESC_CFG 0x040: bit 0 LONG, bit 1 TBL, bit 2 RLEN_EN (R34) -/
  descCfg : BitVec 3
  /-- DESC_MSGID 0x044 (R35) -/
  descMsgid : Byte
  /-- DESC_CMD 0x048 (R35) -/
  descCmd : Half
  /-- DESC_TBL 0x04C (R35) -/
  descTbl : Byte
  /-- DESC_RESPLEN 0x050 (R36) -/
  descResplen : Half
  /-- DESC_REC 0x054: OBJ [7:0], GRP [15:8], SUB [23:16], TAG [31:24] (R37) -/
  descRec : Word
  /-- CMDW_FLAGS 0x058: LONG_MASK [15:0], TBL_MASK [31:16] (R38) -/
  cmdwFlags : Word
  /-- RESULT_OFF 0x05C (R39) -/
  resultOff : Byte
  /-- PAY_OFF 0x060 (R40) -/
  payOff : Half
  /-- PAY_LEN 0x064 (R40) -/
  payLen : Half
  /-- CH_OFF 0x068 (R40) -/
  chOff : Half
  /-- CH_CNT 0x06C (R40) -/
  chCnt : Half
  /-- PORT_OFF 0x070 (R40) -/
  portOff : Half
  /-- PORT_CNT 0x074 (R40) -/
  portCnt : Half
  /-- ATT_OFF 0x078 (R40) -/
  attOff : Half
  /-- ATT_CNT 0x07C (R40) -/
  attCnt : Half
  /-- TX_OFF 0x080 (R41) -/
  txOff : Half
  /-- TX_LEN 0x084 (R41) -/
  txLen : Half
  /-- RX_OFF 0x088 (R42) -/
  rxOff : Half
  /-- RX_LEN 0x08C (R42) -/
  rxLen : Half
  /-- DATA_OFF 0x090 (R43) -/
  dataOff : Half
  /-- DATA_LEN 0x094 (R43) -/
  dataLen : Half
  /-- RX_MSGID 0x098 (R44) -/
  rxMsgid : Byte
  /-- RX_RESULT 0x09C (R44) -/
  rxResult : Byte
  /-- RX_DECL_LEN 0x0A0 (R44) -/
  rxDeclLen : Half
  /-- RX_CKSUM 0x0A4 (R44) -/
  rxCksum : Half
  /-- RX_CKSUM_CALC 0x0A8 (R44) -/
  rxCksumCalc : Half
deriving DecidableEq, Repr

/-- STATUS after a hardware reset: 0 (10_state.md R24, 70_reset_and_hazards.md R280). -/
def statusReset : Status where
  busy := false
  done := false
  err := false
  errCode := 0
  lastOp := 0

/-- The "reset" column of the map (10_state.md section 2, R52). -/
def regsReset : Regs where
  ctrl := 0
  status := statusReset
  errExp := 0
  errAct := 0
  arg0 := 0
  arg1 := 0
  res0 := 0
  res1 := 0
  crcCfg := 0x0000FFFF
  crcAcc := 0xFFFF
  xorAcc := 0
  stepSize := 3125
  frameMax := 256
  okCode := 0
  descCfg := 0
  descMsgid := 0
  descCmd := 0
  descTbl := 0
  descResplen := 0
  descRec := 0
  cmdwFlags := 0x40008000
  resultOff := 0
  payOff := 0
  payLen := 0
  chOff := 0
  chCnt := 0
  portOff := 0
  portCnt := 0
  attOff := 0
  attCnt := 0
  txOff := 0
  txLen := 0
  rxOff := 0
  rxLen := 0
  dataOff := 0
  dataLen := 0
  rxMsgid := 0
  rxResult := 0
  rxDeclLen := 0
  rxCksum := 0
  rxCksumCalc := 0

end Sys2Proof.Machine
end

