-- ==== Sys2Proof/Machine/State.lean ====
section
/-! DEFINITION. The state of HCE (10_state.md R20): its registers, its hidden command state (R47), BUF (R51), the
parameters, and the model's own fields for the host's accesses and the order of the agents' steps. Plain data. -/

namespace Sys2Proof.Machine

/-- The widths of a host access (20_memory.md R62, R63). -/
inductive Width where
  | byte | half | word
deriving DecidableEq, Repr

/-- What a host access does. A write carries a 32-bit value, of which a narrower access uses the low bytes (R64,
log 12). -/
inductive BusOp where
  | read
  | write (v : Word)
deriving DecidableEq, Repr

/-- One host access, at a 17-bit offset of the window (20_memory.md R60). -/
structure HostAccess where
  off : BitVec 17
  width : Width
  op : BusOp
deriving DecidableEq, Repr

/-- What an access that HCE performed answers on the bus. Model's own (log 6). -/
inductive Reply where
  /-- the value a read returns, zero-extended to 32 bits (R64, log 12) -/
  | data (v : Word)
  /-- a write was performed -/
  | written
deriving DecidableEq, Repr

/-- Whose turn a step is. Model's own (log 7). -/
inductive Turn where
  | host | engine
  /-- the hardware reset input is asserted (70_reset_and_hazards.md R280) -/
  | reset
deriving DecidableEq, Repr

/-- The bytes of BUF written since the last hardware reset, by buffer offset. The canonical form (`Memory.wf`): offsets
strictly rising and below BUF_SIZE. An offset that is not listed holds no written value; `bufByte` reads it as the
draw of R281 (log 2). -/
abbrev Memory := List Host.Cell

/-- The offsets rise strictly. -/
def Memory.rising : Memory → Bool
  | [] => true
  | [_] => true
  | c :: d :: m => decide (c.1 < d.1) && Memory.rising (d :: m)

/-- The canonical form of BUF's written bytes: offsets strictly rising, each below BUF_SIZE. What an unlisted offset
holds is no written value at all (`Memory.find` answers none), so no entry equals it, and equal contents are equal
lists. -/
def Memory.wf (size : Nat) (m : Memory) : Bool :=
  Memory.rising m && m.all (fun c => decide (c.1 < size))

/-- The machine. -/
structure State where
  /-- the parameters BUF_SIZE and ID_VALUE (00_scope.md R10); no step changes them (log 1) -/
  cfg : Config
  /-- the window's registers (10_state.md section 2) -/
  regs : Regs
  /-- PENDING, the command word the host wrote last (10_state.md R47); a command only while BUSY = 1 (log 4, log 5) -/
  pending : Word
  /-- BUF's written bytes (10_state.md R51) -/
  buf : Memory
  /-- model's own: which hardware reset's draw the unwritten bytes hold (log 3) -/
  bufEpoch : Nat
  /-- model's own: the host's accesses to come, in program order (log 6) -/
  host : List HostAccess
  /-- model's own: what the performed accesses answered, newest first (log 6) -/
  replies : List Reply
  /-- model's own: whose turns the next steps are (log 7) -/
  sched : List Turn
deriving DecidableEq, Repr

/-- Why a step stops with a fault: the bus errors of 20_memory.md R62 and R63, and nothing else. "A bus error is
reported to the host's bus and changes no HCE state"; "a model treats a bus error as a fault of the host access" (R62).
Each is raised by a host access only, never by a command. Safe: the model stops where the hardware goes on unchanged
(log 10). -/
inductive Fault where
  /-- Raised by a host access to the register region that is not 32 bits wide (R62). Safe. -/
  | registerWidth
  /-- Raised by a host access whose offset is not a multiple of its width in bytes (R62, R63). Safe. -/
  | misaligned
  /-- Raised by a host access that starts in BUF and crosses its end (R63). Safe. -/
  | pastBufEnd
  /-- Raised by a host access to the unmapped range (R60, R62). Safe. -/
  | unmapped
deriving DecidableEq, Repr

/-- Why a step gives no meaning. No step of this model answers with it. -/
inductive Refusal where
  /-- Raised by an arm of exec that has no meaning yet; no arm is left without one. Safe. -/
  | notModelled (mnemonic : String)
deriving DecidableEq, Repr

/-- The machine right after a hardware reset (70_reset_and_hazards.md R280, R281): every register at its reset value, no
command pending, no byte of BUF written, the host about to make its first access. -/
def State.reset : State where
  cfg := Config.hce
  regs := regsReset
  pending := 0
  buf := []
  bufEpoch := 0
  host := []
  replies := []
  sched := []

end Sys2Proof.Machine
end

