-- ==== Sys2Proof/Machine/Flags.lean ====
section
/-! DEFINITION. STATUS as a word (10_state.md R24), what a completion writes to it (60_exceptions.md R252, R253), the
error codes (R255) and the result bits in RES1 of ATT_ENC, ATT_DEC and SCALE (41_field_codec.md). -/

namespace Sys2Proof.Machine

/-- STATUS as the host reads it (10_state.md R24): LASTOP [23:16], ERRCODE [11:8], ERR 2, DONE 1, BUSY 0; the reserved
bits read as 0. -/
def statusWord (st : Status) : Word :=
  0#8 ++ st.lastOp ++ 0#4 ++ st.errCode ++ 0#5 ++ BitVec.ofBool st.err ++ BitVec.ofBool st.done
    ++ BitVec.ofBool st.busy

/-- The error taxonomy (60_exceptions.md R255). TransportError is reserved: no command raises it (D38). -/
inductive ErrorKind where
  | argumentMismatch | outOfRange | payloadTooLarge | transportError | framingError | messageIdMismatch
  | lengthMismatch | deviceRejected | checksumError | illegalCommand
deriving DecidableEq, Repr

/-- The numbers of R255. -/
def errorCode : ErrorKind → BitVec 4
  | .argumentMismatch => 1
  | .outOfRange => 2
  | .payloadTooLarge => 3
  | .transportError => 4
  | .framingError => 5
  | .messageIdMismatch => 6
  | .lengthMismatch => 7
  | .deviceRejected => 8
  | .checksumError => 9
  | .illegalCommand => 10

/-- STATUS after `complete()` (R252): ERR is unchanged. -/
def statusComplete (lastOp : Byte) (st : Status) : Status :=
  { st with errCode := 0, lastOp := lastOp, done := true, busy := false }

/-- STATUS after `raise` (R253). -/
def statusRaise (e : ErrorKind) (lastOp : Byte) (st : Status) : Status :=
  { st with errCode := errorCode e, lastOp := lastOp, err := true, done := true, busy := false }

/-- A host write of v to STATUS: DONE and ERR are W1C, every other bit is RO or reserved (10_state.md R21, R24). -/
def statusW1C (v : Word) (st : Status) : Status :=
  { st with done := st.done && !v.getLsbD 1, err := st.err && !v.getLsbD 2 }

/-- The interrupt output: `IRQ = CTRL.IRQ_EN & STATUS.DONE`, level-sensitive (60_exceptions.md R260). Its
wiring is the platform's (log 15). -/
def irq (s : State) : Bool := s.regs.ctrl.getLsbD 0 && s.regs.status.done

/-- RES1 bit 0 of ATT_ENC: CLAMPED (41_field_codec.md R141). -/
def flagClamped : Word := 1

/-- RES1 bit 1 of ATT_ENC and ATT_DEC: SENTINEL (R141, R142). -/
def flagSentinel : Word := 2

/-- RES1 of SCALE: bit 0 INEXACT, 1 when the value does not divide evenly (R144). -/
def flagInexact (a step : Nat) : Word := if a % step ≠ 0 then 1 else 0

end Sys2Proof.Machine
end

