-- ==== Sys2Proof/Machine/Ops.lean ====
section
/-! DEFINITION. The named operations of the spec: BUF's primitives (00_scope.md R13), the byte order helpers, and
completion. `raise` is HCE's one "trap entry" (60_exceptions.md R253, R258); there is no return from it (R259). -/

namespace Sys2Proof.Machine

/-! ## Words and bytes -/

/-- `u32` of a natural number (00_scope.md R11). -/
def u32 (n : Nat) : Word := BitVec.ofNat 32 n

/-- `u32` of an integer: its 32-bit two's-complement word (R11). -/
def u32i (z : Int) : Word := BitVec.ofInt 32 z

/-- Bits [8k+7:8k] of a word. -/
def byteOf (v : Word) (k : Nat) : Byte := v.extractLsb' (8 * k) 8

/-- The word whose little-endian bytes are `bs`: `bs[0] | bs[1] << 8 | ...` (20_memory.md R64, R65 (a)). -/
def leWord : List Byte → Word
  | [] => 0
  | b :: bs => b.setWidth 32 ||| (leWord bs <<< 8)

/-- The word whose big-endian bytes are `bs` (R65 (c), 41_field_codec.md R139). -/
def beWord (bs : List Byte) : Word := leWord bs.reverse

/-- The n low bytes of a word, low byte first (20_memory.md R64, 41_field_codec.md R134, R136). -/
def leBytes (v : Word) (n : Nat) : List Byte := (List.range n).map (byteOf v)

/-- The n low bytes of a word, high byte first (41_field_codec.md R138). -/
def beBytes (v : Word) (n : Nat) : List Byte := (leBytes v n).reverse

/-! ## BUF -/

/-- The byte written at an offset since the last hardware reset, if there is one. -/
def Memory.find : Memory → Nat → Option Byte
  | [], _ => none
  | c :: m, a => if c.1 = a then some c.2 else Memory.find m a

/-- Write one byte, keeping the offsets strictly rising. -/
def Memory.put : Memory → Nat → Byte → Memory
  | [], a, b => [(a, b)]
  | c :: m, a, b =>
    if a < c.1 then (a, b) :: c :: m
    else if a = c.1 then (a, b) :: m
    else c :: Memory.put m a b

/-- Write the bytes of a list at a, a+1, .... -/
def Memory.putList : Memory → Nat → List Byte → Memory
  | m, _, [] => m
  | m, a, b :: bs => Memory.putList (Memory.put m a b) (a + 1) bs

/-- `BUF[a]` (00_scope.md R13): the byte written there since the last hardware reset, or that reset's draw
(70_reset_and_hazards.md R281, log 2). This is the one place that says what an unlisted offset reads as. -/
def bufByte (s : State) (a : Nat) : Byte :=
  match Memory.find s.buf a with
  | some b => b
  | none => Config.bufDraw s.bufEpoch a

/-- `MemRead(a, n)` (R13). -/
def memRead (s : State) (a n : Nat) : List Byte := (List.range n).map (fun i => bufByte s (a + i))

/-- `MemWrite(a, n, L)` (R13), n being the length of the list. -/
def memWrite (s : State) (a : Nat) (bs : List Byte) : State := { s with buf := Memory.putList s.buf a bs }

/-- `span_ok(off, len)` (R13): on mathematical integers, no wrap-around (D40). -/
def spanOk (s : State) (off len : Nat) : Bool := decide (off + len ≤ s.cfg.bufSize)

/-! ## Completion (60_exceptions.md R250 to R254) -/

/-- What a command answers: always a next state (R251). -/
abbrev Result := Host.Outcome State Fault Refusal

/-- LASTOP's new value, `PENDING[7:0]` (R252, R253, log 14). -/
def lastOpOf (s : State) : Byte := opcodeField s.pending

/-- `complete()` on the state that already holds the command's outputs (R252). -/
def complete (s : State) : State :=
  { s with regs := { s.regs with errExp := 0, errAct := 0, status := statusComplete (lastOpOf s) s.regs.status } }

/-- `raise E(exp, act)` on the state the command began with (R253, R254): nothing else is written. -/
def raise (e : ErrorKind) (exp act : Word) (s : State) : State :=
  { s with regs :=
    { s.regs with errExp := exp, errAct := act, status := statusRaise e (lastOpOf s) s.regs.status } }

/-- A command that ends without error, its outputs written. -/
def completed (s : State) : Result := .next (complete s)

/-- A command that ends with an error. -/
def raised (e : ErrorKind) (exp act : Word) (s : State) : Result := .next (raise e exp act s)

/-- R66: a command that uses a span first checks it, and raises `OutOfRange(BUF_SIZE, u32(off + len))` if it leaves
BUF. -/
def checkSpan (s : State) (off len : Nat) (go : Result) : Result :=
  if spanOk s off len then go else raised .outOfRange (u32 s.cfg.bufSize) (u32 (off + len)) s

/-- The full-width operand check of 41_field_codec.md (D39): a value above its field's maximum raises
`OutOfRange(max, v)`. -/
def checkMax (s : State) (max : Nat) (v : Word) (go : Result) : Result :=
  if v.toNat ≤ max then go else raised .outOfRange (u32 max) v s

/-- A successful command whose only output is RES0. -/
def withRes0 (s : State) (r0 : Word) : Result := completed { s with regs := { s.regs with res0 := r0 } }

/-- A successful command whose outputs are RES0 and RES1. -/
def withRes (s : State) (r0 r1 : Word) : Result :=
  completed { s with regs := { s.regs with res0 := r0, res1 := r1 } }

/-! ## Issue, fetch and reset -/

/-- The effect of the host's write of v to CMD: `STATUS.BUSY <- 1` and `PENDING <- v` (10_state.md R25). -/
def issue (v : Word) (s : State) : State :=
  { s with pending := v, regs := { s.regs with status := { s.regs.status with busy := true } } }

/-- A hardware reset (70_reset_and_hazards.md R280, R281): every register at its reset value, PENDING and any command in
progress discarded, every BUF byte a fresh draw (log 3). The parameters, the host and its schedule are not HCE's to
reset (log 11). -/
def hardReset (s : State) : State :=
  { s with regs := regsReset, pending := 0, buf := [], bufEpoch := s.bufEpoch + 1 }

end Sys2Proof.Machine
end

