-- ==== Sys2Proof/Machine/Operands.lean ====
section
/-! DEFINITION. How a command reads its operands (30_encoding.md R81): the fields of the packed registers
(10_state.md), and the signed reading of ARG0. Every other operand is the register itself, unsigned; a register narrower
than 32 bits is zero-extended (R21). -/

namespace Sys2Proof.Machine

/-- `sext_32(R[ARG0])` (41_field_codec.md R141, R144, R145). -/
def arg0Int (r : Regs) : Int := r.arg0.toInt

/-- CRC_CFG.INIT, bits [15:0] (10_state.md R29). -/
def crcInit (r : Regs) : Half := r.crcCfg.extractLsb' 0 16

/-- CRC_CFG.XOROUT, bits [31:16] (R29). -/
def crcXorout (r : Regs) : Half := r.crcCfg.extractLsb' 16 16

/-- CTRL.RXCK_EN (R23). -/
def rxckEn (r : Regs) : Bool := r.ctrl.getLsbD 1

/-- DESC_CFG.LONG (R34). -/
def isLong (r : Regs) : Bool := r.descCfg.getLsbD 0

/-- DESC_CFG.TBL (R34). -/
def hasTable (r : Regs) : Bool := r.descCfg.getLsbD 1

/-- DESC_CFG.RLEN_EN (R34). -/
def rlenEn (r : Regs) : Bool := r.descCfg.getLsbD 2

/-- DESC_REC.OBJ (R37). -/
def recObj (r : Regs) : Byte := r.descRec.extractLsb' 0 8

/-- DESC_REC.GRP (R37). -/
def recGrp (r : Regs) : Byte := r.descRec.extractLsb' 8 8

/-- DESC_REC.SUB (R37). -/
def recSub (r : Regs) : Byte := r.descRec.extractLsb' 16 8

/-- DESC_REC.TAG (R37). -/
def recTag (r : Regs) : Byte := r.descRec.extractLsb' 24 8

/-- CMDW_FLAGS.LONG_MASK (R38). -/
def longMask (r : Regs) : Half := r.cmdwFlags.extractLsb' 0 16

/-- CMDW_FLAGS.TBL_MASK (R38). -/
def tblMask (r : Regs) : Half := r.cmdwFlags.extractLsb' 16 16

/-- The width in bytes of the length field, and of the checksum, and of the command field: 1 short, 2 long
(42_frame_builder.md R181, 43_response_validator.md R210). -/
def fieldWidth (r : Regs) : Nat := if isLong r then 2 else 1

/-- The bytes the table byte takes in a request: 1 if TBL = 1, else 0 (42_frame_builder.md R181). -/
def tableWidth (r : Regs) : Nat := if hasTable r then 1 else 0

end Sys2Proof.Machine
end

