-- ==== Sys2Proof/Machine/Control.lean ====
section
/-! DEFINITION. Control commands and illegal words (44_control.md). -/

namespace Sys2Proof.Machine

/-- NOP (R240): does nothing but complete. -/
def execNop (s : State) : Result := completed s

/-- SRESET (R241): every register at its reset value, STATUS 0, then `complete()`. BUF is not changed. -/
def execSreset (s : State) : Result := completed { s with regs := regsReset }

/-- A word that stands for no command (R242, 30_encoding.md R83): `IllegalCommand(0, bits)`. -/
def execIllegal (e : DecodeReject) (s : State) : Result :=
  match e with
  | .reservedBits bits => raised .illegalCommand 0 (bits.setWidth 32) s
  | .undefinedOpcode op => raised .illegalCommand 0 (op.setWidth 32) s

end Sys2Proof.Machine
end

