-- ==== Sys2Proof/Machine/FieldCodec.lean ====
section
/-! DEFINITION. The field codec (41_field_codec.md). -/

namespace Sys2Proof.Machine

/-! ## Table byte and 16-bit split and join (R130 to R133) -/

/-- PACK_TBL (R130): ARG0 is checked first. -/
def execPackTbl (s : State) : Result :=
  checkMax s 15 s.regs.arg0 (checkMax s 15 s.regs.arg1
    (withRes0 s ((s.regs.arg0 <<< 4) ||| s.regs.arg1)))

/-- UNPACK_TBL (R131). -/
def execUnpackTbl (s : State) : Result :=
  checkMax s 0xFF s.regs.arg0
    (withRes s ((s.regs.arg0.extractLsb' 4 4).setWidth 32) ((s.regs.arg0.extractLsb' 0 4).setWidth 32))

/-- SPLIT16 (R132). -/
def execSplit16 (s : State) : Result :=
  checkMax s 0xFFFF s.regs.arg0
    (withRes s ((byteOf s.regs.arg0 0).setWidth 32) ((byteOf s.regs.arg0 1).setWidth 32))

/-- JOIN16 (R133): ARG0 is checked first. -/
def execJoin16 (s : State) : Result :=
  checkMax s 0xFF s.regs.arg0 (checkMax s 0xFF s.regs.arg1
    (withRes0 s ((s.regs.arg1 <<< 8) ||| s.regs.arg0)))

/-! ## Field stores and loads in BUF (R134 to R139): the span is checked before the value -/

/-- PUT16LE (R134). -/
def execPut16le (s : State) : Result :=
  checkSpan s s.regs.arg0.toNat 2 (checkMax s 0xFFFF s.regs.arg1
    (completed (memWrite s s.regs.arg0.toNat (leBytes s.regs.arg1 2))))

/-- GET16LE (R135). -/
def execGet16le (s : State) : Result :=
  checkSpan s s.regs.arg0.toNat 2 (withRes0 s (leWord (memRead s s.regs.arg0.toNat 2)))

/-- PUT32LE (R136): every 32-bit word is representable, so there is no value check. -/
def execPut32le (s : State) : Result :=
  checkSpan s s.regs.arg0.toNat 4
    (completed (memWrite s s.regs.arg0.toNat (leBytes s.regs.arg1 4)))

/-- GET32LE (R137). -/
def execGet32le (s : State) : Result :=
  checkSpan s s.regs.arg0.toNat 4 (withRes0 s (leWord (memRead s s.regs.arg0.toNat 4)))

/-- PUT16BE (R138). -/
def execPut16be (s : State) : Result :=
  checkSpan s s.regs.arg0.toNat 2 (checkMax s 0xFFFF s.regs.arg1
    (completed (memWrite s s.regs.arg0.toNat (beBytes s.regs.arg1 2))))

/-- GET16BE (R139). -/
def execGet16be (s : State) : Result :=
  checkSpan s s.regs.arg0.toNat 2 (withRes0 s (beWord (memRead s s.regs.arg0.toNat 2)))

/-! ## Attenuation code (R140 to R142) -/

/-- Round a non-negative centi-dB value half up to 0.1 dB (R141). -/
def attRound (x : Int) : Nat := (x.toNat + 5) / 10

/-- The code of an attenuation in centi-dB, and its flags (R141). Only exactly 2550 gives the sentinel 255. -/
def attCode (x : Int) : Nat × Word :=
  if x = 2550 then (255, flagSentinel)
  else if x < 0 then (0, flagClamped)
  else if 255 ≤ attRound x then (254, flagClamped)
  else (attRound x, 0)

/-- ATT_ENC (R141): every input has a code. -/
def execAttEnc (s : State) : Result :=
  withRes s (u32 (attCode (arg0Int s.regs)).1) (attCode (arg0Int s.regs)).2

/-- ATT_DEC (R142). -/
def execAttDec (s : State) : Result :=
  checkMax s 0xFF s.regs.arg0
    (withRes s (u32 (s.regs.arg0.toNat * 10)) (if s.regs.arg0.toNat = 255 then flagSentinel else 0))

/-! ## Fixed-point step scaling (R143 to R145) -/

/-- The count of steps nearest to v, ties away from zero (R144). -/
def scaleRound (v : Int) (step : Nat) : Int :=
  if v < 0 then -(((2 * v.natAbs + step) / (2 * step) : Nat) : Int)
  else (((2 * v.natAbs + step) / (2 * step) : Nat) : Int)

/-- SCALE (R144): STEP = 0 raises `OutOfRange(1, 0)`. -/
def execScale (s : State) : Result :=
  if s.regs.stepSize = 0 then raised .outOfRange 1 0 s
  else withRes s (u32i (scaleRound (arg0Int s.regs) s.regs.stepSize.toNat))
    (flagInexact (arg0Int s.regs).natAbs s.regs.stepSize.toNat)

/-- The mathematical product of UNSCALE (R145). -/
def unscaleProduct (r : Regs) : Int := arg0Int r * (r.stepSize.toNat : Int)

/-- UNSCALE (R145): a product outside i32 raises `OutOfRange(0x7FFFFFFF, u32(p))`. -/
def execUnscale (s : State) : Result :=
  if 2 ^ 31 - 1 < unscaleProduct s.regs ∨ unscaleProduct s.regs < -2 ^ 31 then
    raised .outOfRange 0x7FFFFFFF (u32i (unscaleProduct s.regs)) s
  else withRes0 s (u32i (unscaleProduct s.regs))

end Sys2Proof.Machine
end

