-- ==== Sys2Proof/Machine/Checksum.lean ====
section
/-! DEFINITION. The checksum unit (40_checksum.md). -/

namespace Sys2Proof.Machine

/-! ## The algorithms -/

/-- `xor8(L)` (R100). -/
def xor8 (bs : List Byte) : Byte := bs.foldl (fun a b => a ^^^ b) 0

/-- The reflected polynomial (R101). -/
def crcPoly : Half := 0xA001

/-- One of the eight shifts of `crc_step` (R101). -/
def crcShift (c : Half) : Half := if c.getLsbD 0 then (c >>> 1) ^^^ crcPoly else c >>> 1

/-- n shifts. -/
def crcShifts : Nat → Half → Half
  | 0, c => c
  | n + 1, c => crcShifts n (crcShift c)

/-- `crc_step(c, b)` (R101). -/
def crcStep (c : Half) (b : Byte) : Half := crcShifts 8 (c ^^^ b.setWidth 16)

/-- The CRC register after the bytes of a list, with no final XOR (R102, R108). -/
def crcRun (c : Half) (bs : List Byte) : Half := bs.foldl crcStep c

/-- `crc16(init, xorout, L)` (R102). -/
def crc16 (init xorout : Half) (bs : List Byte) : Half := crcRun init bs ^^^ xorout

/-- The CRC of a byte list with the parameters of CRC_CFG: "every command that computes a CRC calls it as" this (R102). -/
def crcOf (r : Regs) (bs : List Byte) : Half := crc16 (crcInit r) (crcXorout r) bs

/-! ## The commands -/

/-- A successful ACC_FEED or ACC_SPAN: both accumulators, and RES0 and RES1 from them (R107, R108). -/
def accumulated (s : State) (c : Half) (x : Byte) : Result :=
  completed { s with regs :=
    { s.regs with
      crcAcc := c
      xorAcc := x
      res0 := (c ^^^ crcXorout s.regs).setWidth 32
      res1 := x.setWidth 32 } }

/-- XOR8 (R104). -/
def execXor8 (s : State) : Result :=
  checkSpan s s.regs.arg0.toNat s.regs.arg1.toNat
    (withRes0 s ((xor8 (memRead s s.regs.arg0.toNat s.regs.arg1.toNat)).setWidth 32))

/-- CRC16 (R105). -/
def execCrc16 (s : State) : Result :=
  checkSpan s s.regs.arg0.toNat s.regs.arg1.toNat
    (withRes0 s ((crcOf s.regs (memRead s s.regs.arg0.toNat s.regs.arg1.toNat)).setWidth 32))

/-- ACC_CLR (R106). -/
def execAccClr (s : State) : Result :=
  completed { s with regs :=
    { s.regs with
      crcAcc := crcInit s.regs
      xorAcc := 0
      res0 := (crcInit s.regs ^^^ crcXorout s.regs).setWidth 32
      res1 := 0 } }

/-- ACC_FEED (R107). -/
def execAccFeed (s : State) : Result :=
  checkMax s 0xFF s.regs.arg0
    (accumulated s (crcStep s.regs.crcAcc (byteOf s.regs.arg0 0)) (s.regs.xorAcc ^^^ byteOf s.regs.arg0 0))

/-- ACC_SPAN (R108). -/
def execAccSpan (s : State) : Result :=
  checkSpan s s.regs.arg0.toNat s.regs.arg1.toNat
    (accumulated s
      (crcRun s.regs.crcAcc (memRead s s.regs.arg0.toNat s.regs.arg1.toNat))
      (s.regs.xorAcc ^^^ xor8 (memRead s s.regs.arg0.toNat s.regs.arg1.toNat)))

end Sys2Proof.Machine
end

