-- ==== Sys2Proof/Machine/FrameBuilder.lean ====
section
/-! DEFINITION. The frame builder (42_frame_builder.md). -/

namespace Sys2Proof.Machine

/-! ## Frame layout (R180 to R186) -/

/-- START_MARKER (R180). -/
def startMarker : List Byte := [0xDD, 0x01]

/-- STOP_MARKER (R180). -/
def stopMarker : List Byte := [0xDD, 0x02]

/-- The two bytes of a 16-bit value, high byte first: the length field and the command word (20_memory.md R65 (c), (d)). -/
def halfBE (v : Half) : List Byte := [v.extractLsb' 8 8, v.extractLsb' 0 8]

/-- The two bytes of a CRC, low byte first (20_memory.md R65 (b), 40_checksum.md R103). -/
def halfLE (v : Half) : List Byte := [v.extractLsb' 0 8, v.extractLsb' 8 8]

/-- The long-format command word (R183). -/
def commandWord (r : Regs) : Half := r.descCmd ||| longMask r ||| (if hasTable r then tblMask r else 0)

/-- The command field (R183). -/
def commandField (r : Regs) : List Byte :=
  if isLong r then halfBE (commandWord r) else [r.descCmd.extractLsb' 0 8]

/-- The table byte, if the descriptor has one (R181). -/
def tableField (r : Regs) : List Byte := if hasTable r then [r.descTbl] else []

/-- What the length field counts: command field, table byte and payload (R182). -/
def frameBody (r : Regs) (payload : List Byte) : List Byte := commandField r ++ tableField r ++ payload

/-- The length field: n in one byte, or in two, high byte first (R181, R182). -/
def lengthField (r : Regs) (n : Nat) : List Byte :=
  if isLong r then halfBE (BitVec.ofNat 16 n) else [BitVec.ofNat 8 n]

/-- The checksummed span: message id through the last payload byte (R185). -/
def checkedSpan (r : Regs) (payload : List Byte) : List Byte :=
  [r.descMsgid] ++ lengthField r (frameBody r payload).length ++ frameBody r payload

/-- The checksum of a span in the descriptor's format (R185, 43_response_validator.md R214). -/
def checksumOf (r : Regs) (span : List Byte) : Half :=
  if isLong r then crcOf r span else (xor8 span).setWidth 16

/-- The checksum's bytes in a frame: a CRC low byte first, an XOR-8 one byte (R181, 40_checksum.md R103). -/
def checksumField (r : Regs) (k : Half) : List Byte := if isLong r then halfLE k else [k.extractLsb' 0 8]

/-- The frame `compose(P)` builds (R186). -/
def composeFrame (r : Regs) (payload : List Byte) : List Byte :=
  startMarker ++ checkedSpan r payload ++ checksumField r (checksumOf r (checkedSpan r payload)) ++ stopMarker

/-- The largest value the length field can hold (R187 step 3, R188 step 4). -/
def lengthMax (r : Regs) : Nat := if isLong r then 0xFFFF else 0xFF

/-- The frame's bytes around the n that the length field counts: 7 short, 9 long (R181). -/
def frameOverhead (r : Regs) : Nat := if isLong r then 9 else 7

/-! ## The commands -/

/-- The last three checks of BUILD (R187 steps 3 to 5) and BUILD_REC (R188 steps 4 to 6), and the frame written when
they pass. n is the length field's value; `payload` is read from the snapshot, before the frame is written (R15). -/
def emitFrame (s : State) (n : Nat) (payload : List Byte) : Result :=
  if lengthMax s.regs < n then raised .payloadTooLarge (u32 (lengthMax s.regs)) (u32 n) s
  else if s.regs.frameMax.toNat < frameOverhead s.regs + n then
    raised .payloadTooLarge (s.regs.frameMax.setWidth 32) (u32 (frameOverhead s.regs + n)) s
  else checkSpan s s.regs.txOff.toNat (frameOverhead s.regs + n)
    (completed (memWrite { s with regs :=
      { s.regs with
        txLen := BitVec.ofNat 16 (frameOverhead s.regs + n)
        res0 := u32 n
        res1 := (checksumOf s.regs (checkedSpan s.regs payload)).setWidth 32 } }
      s.regs.txOff.toNat (composeFrame s.regs payload)))

/-- BUILD's value of the length field (R187). -/
def buildLength (r : Regs) : Nat := fieldWidth r + tableWidth r + r.payLen.toNat

/-- BUILD (R187). -/
def execBuild (s : State) : Result :=
  if !isLong s.regs && decide (0xFF < s.regs.descCmd.toNat) then
    raised .outOfRange 0xFF (s.regs.descCmd.setWidth 32) s
  else checkSpan s s.regs.payOff.toNat s.regs.payLen.toNat
    (emitFrame s (buildLength s.regs) (memRead s s.regs.payOff.toNat s.regs.payLen.toNat))

/-- Record i of a multi-record payload: object, group, sub, channel, tag, port, attenuation code (R184). -/
def channelRecord (s : State) (i : Nat) : List Byte :=
  [recObj s.regs, recGrp s.regs, recSub s.regs, bufByte s (s.regs.chOff.toNat + i), recTag s.regs,
   bufByte s (s.regs.portOff.toNat + i), bufByte s (s.regs.attOff.toNat + i)]

/-- The payload of m records (R188). -/
def recordPayload (s : State) (m : Nat) : List Byte := (List.range m).flatMap (channelRecord s)

/-- BUILD_REC's value of the length field (R188). -/
def buildRecLength (r : Regs) : Nat := 2 + tableWidth r + 7 * r.chCnt.toNat

/-- BUILD_REC (R188). -/
def execBuildRec (s : State) : Result :=
  if !isLong s.regs then raised .illegalCommand 1 0 s
  else if s.regs.portCnt ≠ s.regs.chCnt then
    raised .argumentMismatch (s.regs.chCnt.setWidth 32) (s.regs.portCnt.setWidth 32) s
  else if s.regs.attCnt ≠ s.regs.chCnt then
    raised .argumentMismatch (s.regs.chCnt.setWidth 32) (s.regs.attCnt.setWidth 32) s
  else checkSpan s s.regs.chOff.toNat s.regs.chCnt.toNat
    (checkSpan s s.regs.portOff.toNat s.regs.chCnt.toNat
      (checkSpan s s.regs.attOff.toNat s.regs.chCnt.toNat
        (emitFrame s (buildRecLength s.regs) (recordPayload s s.regs.chCnt.toNat))))

end Sys2Proof.Machine
end

