-- ==== Sys2Proof/Machine/ResponseValidator.lean ====
section
/-! DEFINITION. The response validator (43_response_validator.md). The offsets below are frame offsets: `rxByte s i` is
R212's `f[i] = BUF[RX_OFF + i]`. Past the length check every index used lies inside the frame. -/

namespace Sys2Proof.Machine

/-- `f[i]` (R212). -/
def rxByte (s : State) (i : Nat) : Byte := bufByte s (s.regs.rxOff.toNat + i)

/-- `(hi << 8) | lo`. -/
def joinBytes (hi lo : Byte) : Half := hi ++ lo

/-- H, the result byte's frame offset (R210). -/
def resultAt (r : Regs) : Nat := 3 + fieldWidth r + r.resultOff.toNat

/-- Nmin, the length of a frame with an empty Data region (R213). -/
def minFrame (r : Regs) : Nat := resultAt r + 1 + fieldWidth r + 2

/-- N = RX_LEN (R210). -/
def rxN (r : Regs) : Nat := r.rxLen.toNat

/-- S, the checksummed bytes `f[2 .. N-3-CKW]` (R214). -/
def rxSpan (s : State) : List Byte :=
  memRead s (s.regs.rxOff.toNat + 2) (rxN s.regs - 4 - fieldWidth s.regs)

/-- The checksum HCE computes (R214). -/
def rxCalc (s : State) : Half := checksumOf s.regs (rxSpan s)

/-- The checksum received: `f[N-3]` short, `f[N-4] | f[N-3] << 8` long (R214). -/
def rxReceived (s : State) : Half :=
  if isLong s.regs then joinBytes (rxByte s (rxN s.regs - 3)) (rxByte s (rxN s.regs - 4))
  else (rxByte s (rxN s.regs - 3)).setWidth 16

/-- The declared length: `f[3]` short, `(f[3] << 8) | f[4]` long (R217). -/
def rxDeclared (s : State) : Half :=
  if isLong s.regs then joinBytes (rxByte s 3) (rxByte s 4) else (rxByte s 3).setWidth 16

/-- The first two bytes of the frame (R213). -/
def rxStart (s : State) : Half := joinBytes (rxByte s 0) (rxByte s 1)

/-- The last two bytes of the frame (R213). -/
def rxStop (s : State) : Half := joinBytes (rxByte s (rxN s.regs - 2)) (rxByte s (rxN s.regs - 1))

/-- ExtractData (R218): the outputs of a PARSE that passes every check (DATA_OFF: log 16). -/
def extractData (s : State) : State :=
  { s with regs :=
    { s.regs with
      dataOff := BitVec.ofNat 16 (s.regs.rxOff.toNat + resultAt s.regs + 1)
      dataLen := BitVec.ofNat 16 (rxN s.regs - resultAt s.regs - 3 - fieldWidth s.regs)
      rxMsgid := rxByte s 2
      rxResult := rxByte s (resultAt s.regs)
      rxDeclLen := rxDeclared s
      rxCksum := rxReceived s
      rxCksumCalc := rxCalc s } }

/-- PARSE (R219): span, length and markers, checksum (only with RXCK_EN), message id, result, declared length (only with
RLEN_EN), then the data. -/
def execParse (s : State) : Result :=
  checkSpan s s.regs.rxOff.toNat (rxN s.regs)
    (if rxN s.regs < minFrame s.regs then raised .framingError (u32 (minFrame s.regs)) (u32 (rxN s.regs)) s
     else if rxStart s ≠ 0xDD01 then raised .framingError 0xDD01 ((rxStart s).setWidth 32) s
     else if rxStop s ≠ 0xDD02 then raised .framingError 0xDD02 ((rxStop s).setWidth 32) s
     else if rxckEn s.regs && rxCalc s != rxReceived s then
       raised .checksumError ((rxCalc s).setWidth 32) ((rxReceived s).setWidth 32) s
     else if rxByte s 2 ≠ s.regs.descMsgid then
       raised .messageIdMismatch (s.regs.descMsgid.setWidth 32) ((rxByte s 2).setWidth 32) s
     else if rxByte s (resultAt s.regs) ≠ s.regs.okCode then
       raised .deviceRejected (s.regs.okCode.setWidth 32) ((rxByte s (resultAt s.regs)).setWidth 32) s
     else if rlenEn s.regs && rxDeclared s != s.regs.descResplen then
       raised .lengthMismatch (s.regs.descResplen.setWidth 32) ((rxDeclared s).setWidth 32) s
     else completed (extractData s))

end Sys2Proof.Machine
end

