-- ==== Sys2Proof/Machine/Dispatch.lean ====
section
/-! DEFINITION. The engine's dispatch: one arm per command (30_encoding.md R82). -/

namespace Sys2Proof.Machine

def exec (i : Instr) (s : State) : Host.Outcome State Fault Refusal :=
  match i with
  | .nop => Sys2Proof.Machine.execNop s
  | .sreset => Sys2Proof.Machine.execSreset s
  | .xor8 => Sys2Proof.Machine.execXor8 s
  | .crc16 => Sys2Proof.Machine.execCrc16 s
  | .accClr => Sys2Proof.Machine.execAccClr s
  | .accFeed => Sys2Proof.Machine.execAccFeed s
  | .accSpan => Sys2Proof.Machine.execAccSpan s
  | .packTbl => Sys2Proof.Machine.execPackTbl s
  | .unpackTbl => Sys2Proof.Machine.execUnpackTbl s
  | .split16 => Sys2Proof.Machine.execSplit16 s
  | .join16 => Sys2Proof.Machine.execJoin16 s
  | .put16le => Sys2Proof.Machine.execPut16le s
  | .get16le => Sys2Proof.Machine.execGet16le s
  | .put32le => Sys2Proof.Machine.execPut32le s
  | .get32le => Sys2Proof.Machine.execGet32le s
  | .put16be => Sys2Proof.Machine.execPut16be s
  | .get16be => Sys2Proof.Machine.execGet16be s
  | .attEnc => Sys2Proof.Machine.execAttEnc s
  | .attDec => Sys2Proof.Machine.execAttDec s
  | .scale => Sys2Proof.Machine.execScale s
  | .unscale => Sys2Proof.Machine.execUnscale s
  | .build => Sys2Proof.Machine.execBuild s
  | .buildRec => Sys2Proof.Machine.execBuildRec s
  | .parse => Sys2Proof.Machine.execParse s

end Sys2Proof.Machine
end

