-- ==== Sys2Proof/Machine/Bus.lean ====
section
/-! DEFINITION. The host's view: the register map (10_state.md section 2), the bus accesses (20_memory.md R60 to R64,
R69), the stall (10_state.md R47), and the steps of the two agents (R20). -/

namespace Sys2Proof.Machine

/-! ## The register map -/

/-- The registers of the map, by name (10_state.md section 2, 00_scope.md R12). -/
inductive Reg where
  | id | ctrl | status | cmd | errExp | errAct | arg0 | arg1 | res0 | res1 | crcCfg | crcAcc | xorAcc | step
  | frameMax | okCode | descCfg | descMsgid | descCmd | descTbl | descResplen | descRec | cmdwFlags | resultOff
  | payOff | payLen | chOff | chCnt | portOff | portCnt | attOff | attCnt | txOff | txLen | rxOff | rxLen
  | dataOff | dataLen | rxMsgid | rxResult | rxDeclLen | rxCksum | rxCksumCalc | bufsz
deriving DecidableEq, Repr

/-- The register at a window offset; none at the reserved offsets 0x0B0 to 0xFFC (10_state.md R46). -/
def regAt (off : Nat) : Option Reg :=
  match off with
  | 0x000 => some .id
  | 0x004 => some .ctrl
  | 0x008 => some .status
  | 0x00C => some .cmd
  | 0x010 => some .errExp
  | 0x014 => some .errAct
  | 0x018 => some .arg0
  | 0x01C => some .arg1
  | 0x020 => some .res0
  | 0x024 => some .res1
  | 0x028 => some .crcCfg
  | 0x02C => some .crcAcc
  | 0x030 => some .xorAcc
  | 0x034 => some .step
  | 0x038 => some .frameMax
  | 0x03C => some .okCode
  | 0x040 => some .descCfg
  | 0x044 => some .descMsgid
  | 0x048 => some .descCmd
  | 0x04C => some .descTbl
  | 0x050 => some .descResplen
  | 0x054 => some .descRec
  | 0x058 => some .cmdwFlags
  | 0x05C => some .resultOff
  | 0x060 => some .payOff
  | 0x064 => some .payLen
  | 0x068 => some .chOff
  | 0x06C => some .chCnt
  | 0x070 => some .portOff
  | 0x074 => some .portCnt
  | 0x078 => some .attOff
  | 0x07C => some .attCnt
  | 0x080 => some .txOff
  | 0x084 => some .txLen
  | 0x088 => some .rxOff
  | 0x08C => some .rxLen
  | 0x090 => some .dataOff
  | 0x094 => some .dataLen
  | 0x098 => some .rxMsgid
  | 0x09C => some .rxResult
  | 0x0A0 => some .rxDeclLen
  | 0x0A4 => some .rxCksum
  | 0x0A8 => some .rxCksumCalc
  | 0x0AC => some .bufsz
  | _ => none

/-- What a 32-bit host read of a register returns: its fields, reserved bits 0 (R21). CMD reads 0 (R25), ID and BUFSZ
read the parameters (R22, R45). A read changes nothing (20_memory.md R69). -/
def regRead (s : State) (reg : Reg) : Word :=
  match reg with
  | .id => s.cfg.idValue
  | .ctrl => s.regs.ctrl.setWidth 32
  | .status => statusWord s.regs.status
  | .cmd => 0
  | .errExp => s.regs.errExp
  | .errAct => s.regs.errAct
  | .arg0 => s.regs.arg0
  | .arg1 => s.regs.arg1
  | .res0 => s.regs.res0
  | .res1 => s.regs.res1
  | .crcCfg => s.regs.crcCfg
  | .crcAcc => s.regs.crcAcc.setWidth 32
  | .xorAcc => s.regs.xorAcc.setWidth 32
  | .step => s.regs.stepSize
  | .frameMax => s.regs.frameMax.setWidth 32
  | .okCode => s.regs.okCode.setWidth 32
  | .descCfg => s.regs.descCfg.setWidth 32
  | .descMsgid => s.regs.descMsgid.setWidth 32
  | .descCmd => s.regs.descCmd.setWidth 32
  | .descTbl => s.regs.descTbl.setWidth 32
  | .descResplen => s.regs.descResplen.setWidth 32
  | .descRec => s.regs.descRec
  | .cmdwFlags => s.regs.cmdwFlags
  | .resultOff => s.regs.resultOff.setWidth 32
  | .payOff => s.regs.payOff.setWidth 32
  | .payLen => s.regs.payLen.setWidth 32
  | .chOff => s.regs.chOff.setWidth 32
  | .chCnt => s.regs.chCnt.setWidth 32
  | .portOff => s.regs.portOff.setWidth 32
  | .portCnt => s.regs.portCnt.setWidth 32
  | .attOff => s.regs.attOff.setWidth 32
  | .attCnt => s.regs.attCnt.setWidth 32
  | .txOff => s.regs.txOff.setWidth 32
  | .txLen => s.regs.txLen.setWidth 32
  | .rxOff => s.regs.rxOff.setWidth 32
  | .rxLen => s.regs.rxLen.setWidth 32
  | .dataOff => s.regs.dataOff.setWidth 32
  | .dataLen => s.regs.dataLen.setWidth 32
  | .rxMsgid => s.regs.rxMsgid.setWidth 32
  | .rxResult => s.regs.rxResult.setWidth 32
  | .rxDeclLen => s.regs.rxDeclLen.setWidth 32
  | .rxCksum => s.regs.rxCksum.setWidth 32
  | .rxCksumCalc => s.regs.rxCksumCalc.setWidth 32
  | .bufsz => (BitVec.ofNat 17 s.cfg.bufSize).setWidth 32

/-- The registers after a host write of v to a register other than CMD: an RW field takes v's bits, a reserved bit and
an RO register ignore them, STATUS clears by writing 1 (R21, R24). -/
def regsWrite (r : Regs) (reg : Reg) (v : Word) : Regs :=
  match reg with
  | .ctrl => { r with ctrl := v.setWidth 2 }
  | .status => { r with status := statusW1C v r.status }
  | .arg0 => { r with arg0 := v }
  | .arg1 => { r with arg1 := v }
  | .crcCfg => { r with crcCfg := v }
  | .crcAcc => { r with crcAcc := v.setWidth 16 }
  | .xorAcc => { r with xorAcc := v.setWidth 8 }
  | .step => { r with stepSize := v }
  | .frameMax => { r with frameMax := v.setWidth 16 }
  | .okCode => { r with okCode := v.setWidth 8 }
  | .descCfg => { r with descCfg := v.setWidth 3 }
  | .descMsgid => { r with descMsgid := v.setWidth 8 }
  | .descCmd => { r with descCmd := v.setWidth 16 }
  | .descTbl => { r with descTbl := v.setWidth 8 }
  | .descResplen => { r with descResplen := v.setWidth 16 }
  | .descRec => { r with descRec := v }
  | .cmdwFlags => { r with cmdwFlags := v }
  | .resultOff => { r with resultOff := v.setWidth 8 }
  | .payOff => { r with payOff := v.setWidth 16 }
  | .payLen => { r with payLen := v.setWidth 16 }
  | .chOff => { r with chOff := v.setWidth 16 }
  | .chCnt => { r with chCnt := v.setWidth 16 }
  | .portOff => { r with portOff := v.setWidth 16 }
  | .portCnt => { r with portCnt := v.setWidth 16 }
  | .attOff => { r with attOff := v.setWidth 16 }
  | .attCnt => { r with attCnt := v.setWidth 16 }
  | .txOff => { r with txOff := v.setWidth 16 }
  | .rxOff => { r with rxOff := v.setWidth 16 }
  | .rxLen => { r with rxLen := v.setWidth 16 }
  | .id | .cmd | .errExp | .errAct | .res0 | .res1 | .txLen | .dataOff | .dataLen | .rxMsgid | .rxResult
  | .rxDeclLen | .rxCksum | .rxCksumCalc | .bufsz => r

/-- A host write to a register. The write to CMD issues a command (R25); no other has an effect beyond the register
(20_memory.md R69). -/
def regWrite (s : State) (reg : Reg) (v : Word) : State :=
  if reg = .cmd then issue v s else { s with regs := regsWrite s.regs reg v }

/-! ## Bus accesses (20_memory.md) -/

/-- The bytes of an access. -/
def widthBytes : Width → Nat
  | .byte => 1
  | .half => 2
  | .word => 4

/-- The size of the window (R60). -/
def windowSize : Nat := 0x20000

/-- The window offset of the first byte of BUF (R61). -/
def bufBase : Nat := 0x1000

/-- The window offset of a bus address, if the address lies in the window at BASE (R60). Addresses outside it are not
HCE's. -/
def windowOffset (addr : Nat) : Option (BitVec 17) :=
  if Config.base ≤ addr ∧ addr < Config.base + windowSize then some (BitVec.ofNat 17 (addr - Config.base)) else none

/-- What an admitted access reaches. -/
inductive Target where
  /-- a register, or none at a reserved offset (10_state.md R46) -/
  | reg (r : Option Reg)
  /-- the BUF bytes from an offset on (R61) -/
  | buf (a : Nat)
deriving DecidableEq, Repr

/-- What an access at a window offset reaches, or the bus error it gets (R60, R62, R63). -/
def busTarget (size off : Nat) (w : Width) : Except Fault Target :=
  if off < bufBase then
    if w ≠ .word then .error .registerWidth
    else if off % 4 ≠ 0 then .error .misaligned
    else .ok (.reg (regAt off))
  else if off < bufBase + size then
    if off % widthBytes w ≠ 0 then .error .misaligned
    else if bufBase + size < off + widthBytes w then .error .pastBufEnd
    else .ok (.buf (off - bufBase))
  else .error .unmapped

/-- The value an admitted read returns, zero-extended to 32 bits (R64, 10_state.md R46). -/
def busRead (s : State) (t : Target) (w : Width) : Word :=
  match t with
  | .reg (some reg) => regRead s reg
  | .reg none => 0
  | .buf a => leWord (memRead s a (widthBytes w))

/-- The effect of an admitted write (R64, 10_state.md R46). -/
def busWrite (s : State) (t : Target) (w : Width) (v : Word) : State :=
  match t with
  | .reg (some reg) => regWrite s reg v
  | .reg none => s
  | .buf a => memWrite s a (leBytes v (widthBytes w))

/-- Record what an access answered on the bus (log 6). -/
def reply (r : Reply) (s : State) : State := { s with replies := r :: s.replies }

/-- One host access, performed (R62 to R64, R69). -/
def hostAccess (s : State) (a : HostAccess) : Result :=
  match busTarget s.cfg.bufSize a.off.toNat a.width with
  | .error e => .fault e
  | .ok t =>
    match a.op with
    | .read => .next (reply (.data (busRead s t a.width)) s)
    | .write v => .next (reply .written (busWrite s t a.width v))

/-- Reads of STATUS and ID never stall (10_state.md R22, R24, R47): the 32-bit reads at their offsets (log 8). -/
def neverStalls (a : HostAccess) : Bool :=
  a.op == .read && a.width == .word && (a.off == 0x000 || a.off == 0x008)

/-- While STATUS.BUSY = 1 every other access is held without completing (R47). -/
def stalls (s : State) (a : HostAccess) : Bool := s.regs.status.busy && !neverStalls a

/-! ## The agents' steps (10_state.md R20) -/

/-- The engine runs PENDING: decode, then the command, or IllegalCommand (60_exceptions.md R251, 30_encoding.md R83). -/
def runPending (s : State) : Result :=
  match decode s.pending with
  | .ok i => exec i s
  | .error e => execIllegal e s

/-- The engine's turn: it has a step only while BUSY = 1 (R251, R267); otherwise its turn passes. -/
def engineTurn (s : State) : Result := if s.regs.status.busy then runPending s else .next s

/-- The host's turn: its next access is performed, unless it stalls and is held (10_state.md R47) or there is none. -/
def hostTurn (s : State) : Result :=
  match s.host with
  | [] => .next s
  | a :: rest => if stalls s a then .next s else hostAccess { s with host := rest } a

/-- Whose turn it is: the schedule's head; with none left, the engine while a command is pending, else the host
(log 7). -/
def nextTurn (s : State) : Turn :=
  match s.sched with
  | t :: _ => t
  | [] => if s.regs.status.busy then .engine else .host

/-- The turn is taken off the schedule. -/
def takeTurn (s : State) : State := { s with sched := s.sched.tail }

/-- One step of the machine: the agent whose turn it is moves, or the reset input is asserted. -/
def turnStep (s : State) : Result :=
  match nextTurn s with
  | .host => hostTurn (takeTurn s)
  | .engine => engineTurn (takeTurn s)
  | .reset => .next (hardReset (takeTurn s))

/-- A command word placed where the engine takes it next: the CMD write made (10_state.md R25) and the engine's turn
(log 13). -/
def placeCommand (w : Word) (s : State) : State := { issue w s with sched := .engine :: s.sched }

end Sys2Proof.Machine
end

