-- ==== Sys2Proof/Machine/Step.lean ====
section
/-! DEFINITION. The machine's step, and the placing of a command word for it. -/

namespace Sys2Proof.Machine

/-- One step: the agent whose turn it is moves (`turnStep`). -/
def step (s : State) : Host.Outcome State Fault Refusal := turnStep s

/-- s with the command word whose low `nbits` bits are w's issued, so that the very next step runs it (log 13). -/
def State.withFetchWord (s : State) (nbits w : Nat) : State := placeCommand (BitVec.ofNat 32 (w % 2 ^ nbits)) s

end Sys2Proof.Machine
end

