-- ==== Sys2Proof/Safety.lean ====
section
/-! DEFINITION. The words the statements use: what a completion leaves, written once from 60_exceptions.md R252 and R253
without the model's own operations, what a command may raise (R255), which registers the host owns, what a command reads
(00_scope.md R19), and the invariant that every step keeps. -/

namespace Sys2Proof.Machine

/-! ## Completions -/

/-- The registers after a successful completion that writes no other output (R252). -/
def okRegs (s : State) : Regs :=
  { s.regs with
    errExp := 0
    errAct := 0
    status :=
      { busy := false, done := true, err := s.regs.status.err, errCode := 0
        lastOp := s.pending.extractLsb' 0 8 } }

/-- The state after a successful completion whose only output is RES0. -/
def okRes0 (s : State) (r0 : Word) : State := { s with regs := { okRegs s with res0 := r0 } }

/-- The state after a successful completion whose outputs are RES0 and RES1. -/
def okRes (s : State) (r0 r1 : Word) : State := { s with regs := { okRegs s with res0 := r0, res1 := r1 } }

/-- The state after a completion with error: STATUS, ERR_EXP and ERR_ACT, and nothing else (R253, R254). -/
def failState (s : State) (code : BitVec 4) (exp act : Word) : State :=
  { s with regs :=
    { s.regs with
      errExp := exp
      errAct := act
      status :=
        { busy := false, done := true, err := true, errCode := code, lastOp := s.pending.extractLsb' 0 8 } } }

/-- OutOfRange, code 2 (R255), with two natural numbers reduced to 32 bits. -/
def outOfRange (s : State) (exp act : Nat) : State := failState s 2 (BitVec.ofNat 32 exp) (BitVec.ofNat 32 act)

/-- PayloadTooLarge, code 3 (R255). -/
def payloadTooLarge (s : State) (max size : Nat) : State :=
  failState s 3 (BitVec.ofNat 32 max) (BitVec.ofNat 32 size)

/-- The error codes a command may raise: R255's column "raised by". -/
def mayRaise : Instr → List (BitVec 4)
  | .nop | .sreset | .accClr | .attEnc => []
  | .xor8 | .crc16 | .accFeed | .accSpan | .packTbl | .unpackTbl | .split16 | .join16 | .put16le | .get16le
  | .put32le | .get32le | .put16be | .get16be | .attDec | .scale | .unscale => [2]
  | .build => [2, 3]
  | .buildRec => [1, 2, 3, 10]
  | .parse => [2, 5, 6, 7, 8, 9]

/-- The commands whose rules name BUF bytes among their outputs (30_encoding.md R81). -/
def storesBuf : Instr → Bool
  | .put16le | .put32le | .put16be | .build | .buildRec => true
  | .nop | .sreset | .xor8 | .crc16 | .accClr | .accFeed | .accSpan | .packTbl | .unpackTbl | .split16 | .join16
  | .get16le | .get32le | .get16be | .attEnc | .attDec | .scale | .unscale | .parse => false

/-- The registers only the host and a reset write: every register of the map but STATUS, ERR_EXP, ERR_ACT, RES0, RES1, the
accumulators, TX_LEN and the response registers (30_encoding.md R81), with those set to their reset values. Two register
files agree here exactly when they agree on all the host's registers. -/
def hostSide (r : Regs) : Regs :=
  { r with
    status := statusReset, errExp := 0, errAct := 0, res0 := 0, res1 := 0, crcAcc := 0xFFFF, xorAcc := 0
    txLen := 0, dataOff := 0, dataLen := 0, rxMsgid := 0, rxResult := 0, rxDeclLen := 0, rxCksum := 0
    rxCksumCalc := 0 }

/-- What a command's result depends on (00_scope.md R15, R19): the registers, PENDING, BUF_SIZE and the bytes of BUF, and
neither how BUF's bytes came to be there nor anything of the host. -/
def sameInputs (s t : State) : Prop :=
  s.regs = t.regs ∧ s.pending = t.pending ∧ s.cfg.bufSize = t.cfg.bufSize ∧
    ∀ a, a < s.cfg.bufSize → bufByte s a = bufByte t a

/-! ## The host's registers -/

/-- The RW registers of the map with the bits they use (10_state.md section 2). -/
def rwMap : List (BitVec 17 × Word) :=
  [(0x004, 0x3), (0x018, 0xFFFFFFFF), (0x01C, 0xFFFFFFFF), (0x028, 0xFFFFFFFF), (0x02C, 0xFFFF), (0x030, 0xFF),
   (0x034, 0xFFFFFFFF), (0x038, 0xFFFF), (0x03C, 0xFF), (0x040, 0x7), (0x044, 0xFF), (0x048, 0xFFFF), (0x04C, 0xFF),
   (0x050, 0xFFFF), (0x054, 0xFFFFFFFF), (0x058, 0xFFFFFFFF), (0x05C, 0xFF), (0x060, 0xFFFF), (0x064, 0xFFFF),
   (0x068, 0xFFFF), (0x06C, 0xFFFF), (0x070, 0xFFFF), (0x074, 0xFFFF), (0x078, 0xFFFF), (0x07C, 0xFFFF),
   (0x080, 0xFFFF), (0x088, 0xFFFF), (0x08C, 0xFFFF)]

/-- The RO registers of the map (10_state.md section 2). -/
def roMap : List (BitVec 17) :=
  [0x000, 0x010, 0x014, 0x020, 0x024, 0x084, 0x090, 0x094, 0x098, 0x09C, 0x0A0, 0x0A4, 0x0A8, 0x0AC]

/-- An RW register of the map: its offset, what it holds, zero-extended, and the register file after the host wrote a
value to it. -/
structure RwField where
  off : BitVec 17
  get : Regs → Word
  set : Regs → Word → Regs

/-- The RW registers of the map by name: which field of the register file each offset is, and how many low bits of a written
value it takes (10_state.md section 2, R23, R27, R29 to R42). -/
def rwFields : List RwField :=
  [⟨0x004, fun r => r.ctrl.setWidth 32, fun r v => { r with ctrl := v.extractLsb' 0 2 }⟩,
   ⟨0x018, fun r => r.arg0, fun r v => { r with arg0 := v }⟩,
   ⟨0x01C, fun r => r.arg1, fun r v => { r with arg1 := v }⟩,
   ⟨0x028, fun r => r.crcCfg, fun r v => { r with crcCfg := v }⟩,
   ⟨0x02C, fun r => r.crcAcc.setWidth 32, fun r v => { r with crcAcc := v.extractLsb' 0 16 }⟩,
   ⟨0x030, fun r => r.xorAcc.setWidth 32, fun r v => { r with xorAcc := v.extractLsb' 0 8 }⟩,
   ⟨0x034, fun r => r.stepSize, fun r v => { r with stepSize := v }⟩,
   ⟨0x038, fun r => r.frameMax.setWidth 32, fun r v => { r with frameMax := v.extractLsb' 0 16 }⟩,
   ⟨0x03C, fun r => r.okCode.setWidth 32, fun r v => { r with okCode := v.extractLsb' 0 8 }⟩,
   ⟨0x040, fun r => r.descCfg.setWidth 32, fun r v => { r with descCfg := v.extractLsb' 0 3 }⟩,
   ⟨0x044, fun r => r.descMsgid.setWidth 32, fun r v => { r with descMsgid := v.extractLsb' 0 8 }⟩,
   ⟨0x048, fun r => r.descCmd.setWidth 32, fun r v => { r with descCmd := v.extractLsb' 0 16 }⟩,
   ⟨0x04C, fun r => r.descTbl.setWidth 32, fun r v => { r with descTbl := v.extractLsb' 0 8 }⟩,
   ⟨0x050, fun r => r.descResplen.setWidth 32, fun r v => { r with descResplen := v.extractLsb' 0 16 }⟩,
   ⟨0x054, fun r => r.descRec, fun r v => { r with descRec := v }⟩,
   ⟨0x058, fun r => r.cmdwFlags, fun r v => { r with cmdwFlags := v }⟩,
   ⟨0x05C, fun r => r.resultOff.setWidth 32, fun r v => { r with resultOff := v.extractLsb' 0 8 }⟩,
   ⟨0x060, fun r => r.payOff.setWidth 32, fun r v => { r with payOff := v.extractLsb' 0 16 }⟩,
   ⟨0x064, fun r => r.payLen.setWidth 32, fun r v => { r with payLen := v.extractLsb' 0 16 }⟩,
   ⟨0x068, fun r => r.chOff.setWidth 32, fun r v => { r with chOff := v.extractLsb' 0 16 }⟩,
   ⟨0x06C, fun r => r.chCnt.setWidth 32, fun r v => { r with chCnt := v.extractLsb' 0 16 }⟩,
   ⟨0x070, fun r => r.portOff.setWidth 32, fun r v => { r with portOff := v.extractLsb' 0 16 }⟩,
   ⟨0x074, fun r => r.portCnt.setWidth 32, fun r v => { r with portCnt := v.extractLsb' 0 16 }⟩,
   ⟨0x078, fun r => r.attOff.setWidth 32, fun r v => { r with attOff := v.extractLsb' 0 16 }⟩,
   ⟨0x07C, fun r => r.attCnt.setWidth 32, fun r v => { r with attCnt := v.extractLsb' 0 16 }⟩,
   ⟨0x080, fun r => r.txOff.setWidth 32, fun r v => { r with txOff := v.extractLsb' 0 16 }⟩,
   ⟨0x088, fun r => r.rxOff.setWidth 32, fun r v => { r with rxOff := v.extractLsb' 0 16 }⟩,
   ⟨0x08C, fun r => r.rxLen.setWidth 32, fun r v => { r with rxLen := v.extractLsb' 0 16 }⟩]

/-- The RO registers of the map by name: what a host read of each offset answers, zero-extended; ID and BUFSZ are the
parameters (10_state.md section 2, R22, R26, R28, R41, R43 to R45). -/
def roFields : List (BitVec 17 × (State → Word)) :=
  [(0x000, fun s => s.cfg.idValue), (0x010, fun s => s.regs.errExp), (0x014, fun s => s.regs.errAct),
   (0x020, fun s => s.regs.res0), (0x024, fun s => s.regs.res1), (0x084, fun s => s.regs.txLen.setWidth 32),
   (0x090, fun s => s.regs.dataOff.setWidth 32), (0x094, fun s => s.regs.dataLen.setWidth 32),
   (0x098, fun s => s.regs.rxMsgid.setWidth 32), (0x09C, fun s => s.regs.rxResult.setWidth 32),
   (0x0A0, fun s => s.regs.rxDeclLen.setWidth 32), (0x0A4, fun s => s.regs.rxCksum.setWidth 32),
   (0x0A8, fun s => s.regs.rxCksumCalc.setWidth 32),
   (0x0AC, fun s => (BitVec.ofNat 17 s.cfg.bufSize).setWidth 32)]

/-- The register map's reset column, with the ID and BUF_SIZE of a state (10_state.md section 2). -/
def resetMap (c : Config) : List (BitVec 17 × Word) :=
  [(0x000, c.idValue), (0x004, 0), (0x008, 0), (0x00C, 0), (0x010, 0), (0x014, 0), (0x018, 0), (0x01C, 0), (0x020, 0),
   (0x024, 0), (0x028, 0x0000FFFF), (0x02C, 0x0000FFFF), (0x030, 0), (0x034, 3125), (0x038, 256), (0x03C, 0),
   (0x040, 0), (0x044, 0), (0x048, 0), (0x04C, 0), (0x050, 0), (0x054, 0), (0x058, 0x40008000), (0x05C, 0), (0x060, 0),
   (0x064, 0), (0x068, 0), (0x06C, 0), (0x070, 0), (0x074, 0), (0x078, 0), (0x07C, 0), (0x080, 0), (0x084, 0),
   (0x088, 0), (0x08C, 0), (0x090, 0), (0x094, 0), (0x098, 0), (0x09C, 0), (0x0A0, 0), (0x0A4, 0), (0x0A8, 0),
   (0x0AC, (BitVec.ofNat 17 c.bufSize).setWidth 32)]

/-- An access R62 and R63 admit in a window whose BUF has `size` bytes. -/
def admitted (size : Nat) (a : HostAccess) : Prop :=
  (a.off.toNat < 0x1000 ∧ a.width = .word ∧ a.off.toNat % 4 = 0) ∨
    (0x1000 ≤ a.off.toNat ∧ a.off.toNat % widthBytes a.width = 0 ∧
      a.off.toNat + widthBytes a.width ≤ 0x1000 + size)

/-! ## The invariant of a run -/

/-- What holds of every reachable state of HCE: the parameters are legal (00_scope.md R10); BUF's written bytes are in
their canonical form, below BUF_SIZE; ERRCODE is a code R255 produces; after a success ERR_EXP and ERR_ACT are 0
(10_state.md R26); LASTOP is a defined opcode unless the last command was illegal (R24, R82); the last frame and the
last data slice lie inside BUF (R41, R43). -/
structure Inv (s : State) : Prop where
  params : s.cfg.wf = true
  buf : Memory.wf s.cfg.bufSize s.buf = true
  code : s.regs.status.errCode.toNat ≤ 10 ∧ s.regs.status.errCode ≠ 4
  clean : s.regs.status.errCode = 0 → s.regs.errExp = 0 ∧ s.regs.errAct = 0
  lastOp : s.regs.status.errCode ≠ 10 → opcodeDefined s.regs.status.lastOp = true
  frame : s.regs.txLen.toNat ≤ s.cfg.bufSize
  slice : s.regs.dataOff.toNat + s.regs.dataLen.toNat ≤ s.cfg.bufSize

end Sys2Proof.Machine
end

