-- ==== Sys2Proof/Certificates/Slice0/Obligations.lean ====
section
/-! DEFINITION. The statements for the provers. Each cites the rule of spec/ it formalises. A completion is written out
from 60_exceptions.md R252 and R253 (`okRegs`, `failState` in Safety.lean), so that an equation for the next state is
also the frame: what is not named is unchanged. That the frame of a command holds PENDING too is the model's deduction
(log 5); that it holds the host's lists, the schedule and the draw counter says what the model's own fields do (logs 3,
6, 7). No rule is cited for these. -/

open Sys2Proof Sys2Proof.Machine

/-! ## Encoding -/

/-- 30_encoding.md R82: a word selects a defined command exactly when RSVD is 0 and OPCODE is one of the 24 values; it
is then the opcode zero-extended; and decoding and encoding are inverse. -/
def Obligations.DecodeSelectsExactlyTheDefinedWords : Prop :=
  (∀ (w : Word) (i : Instr), decode w = .ok i ↔ w = encode i) ∧
  (∀ w : Word, (∃ i, decode w = .ok i) ↔ (w.extractLsb' 8 24 = 0 ∧ opcodeDefined (w.extractLsb' 0 8) = true)) ∧
  (∀ (w : Word) (i : Instr), decode w = .ok i → w.toNat = (w.extractLsb' 0 8).toNat)

/-- Words written out bit by bit from spec/opcode_table.json, one at least of each family. -/
def Obligations.WrittenOutWordsDecode : Prop :=
  decode 0b00000000000000000000000000000000 = .ok .nop ∧
  decode 0b00000000000000000000000000010001 = .ok .crc16 ∧
  decode 0b00000000000000000000000000010100 = .ok .accSpan ∧
  decode 0b00000000000000000000000000100011 = .ok .join16 ∧
  decode 0b00000000000000000000000000101100 = .ok .scale ∧
  decode 0b00000000000000000000000000110001 = .ok .buildRec ∧
  decode 0b00000000000000000000000000111000 = .ok .parse

/-- 30_encoding.md R83, 44_control.md R242: an undefined word that the engine takes completes with IllegalCommand (code
10), exp 0; act is the reserved bits if they are not 0, else the opcode. Nothing but STATUS, ERR_EXP and ERR_ACT changes. -/
def Obligations.IllegalWordsCompleteWithIllegalCommand : Prop :=
  ∀ s : State, s.regs.status.busy = true → nextTurn s = .engine →
    (s.pending.extractLsb' 8 24 ≠ 0 →
      step s = .next (failState (takeTurn s) 10 0 ((s.pending.extractLsb' 8 24).setWidth 32))) ∧
    (s.pending.extractLsb' 8 24 = 0 → opcodeDefined (s.pending.extractLsb' 0 8) = false →
      step s = .next (failState (takeTurn s) 10 0 ((s.pending.extractLsb' 0 8).setWidth 32)))

/-! ## The engine -/

/-- 60_exceptions.md R251: the engine's step takes PENDING, decodes it and runs the command; a word placed with
withFetchWord is the very next command run. -/
def Obligations.StepRunsTheDecodedCommand : Prop :=
  (∀ (s : State) (i : Instr), s.regs.status.busy = true → nextTurn s = .engine → decode s.pending = .ok i →
    step s = exec i (takeTurn s)) ∧
  (∀ (s : State) (i : Instr), step (s.withFetchWord 32 (encode i).toNat) =
    exec i { s with
      pending := encode i
      regs := { s.regs with status := { s.regs.status with busy := true } } })

/-- 60_exceptions.md R251, R267: while BUSY = 1 the engine's step exists and completes the command, whatever word PENDING
holds; while BUSY = 0 the engine has no step, and its turn changes nothing. -/
def Obligations.EngineStepAlwaysCompletes : Prop :=
  ∀ s : State, nextTurn s = .engine →
    (s.regs.status.busy = true → ∃ t, step s = .next t ∧ t.regs.status.busy = false ∧ t.regs.status.done = true ∧
      t.regs.status.lastOp = s.pending.extractLsb' 0 8) ∧
    (s.regs.status.busy = false → step s = .next (takeTurn s))

/-- 60_exceptions.md R252 to R255: every command answers a next state, which is a clean completion (ERRCODE 0, ERR_EXP
and ERR_ACT 0, ERR as it was, but for SRESET) or an error its row of R255 allows, with STATUS, ERR_EXP and ERR_ACT written
and nothing else. -/
def Obligations.EveryCompletionIsCleanOrAnAtomicError : Prop :=
  ∀ (i : Instr) (s : State), ∃ t, exec i s = .next t ∧
    ((t.regs.status.busy = false ∧ t.regs.status.done = true ∧ t.regs.status.errCode = 0 ∧
        t.regs.status.lastOp = s.pending.extractLsb' 0 8 ∧ t.regs.errExp = 0 ∧ t.regs.errAct = 0 ∧
        (i ≠ .sreset → t.regs.status.err = s.regs.status.err)) ∨
      ∃ code ∈ mayRaise i, ∃ exp act, t = failState s code exp act)

/-- 10_state.md R51: the engine writes BUF at the output spans its rules name and nowhere else; a command that names none
leaves every byte as it was. -/
def Obligations.NonStoringCommandsKeepEveryByte : Prop :=
  ∀ (i : Instr) (s t : State), storesBuf i = false → exec i s = .next t →
    t.buf = s.buf ∧ ∀ a, bufByte t a = bufByte s a

/-- 30_encoding.md R81, 10_state.md R27: no command but SRESET writes a register of the host's side, and none touches
the parameters. That none touches PENDING, SRESET with the others, is the model's deduction (log 5), no rule's; that none
touches the draw, the host or the schedule says what the model's own fields do (logs 3, 6, 7). -/
def Obligations.CommandsKeepTheHostsRegisters : Prop :=
  ∀ (i : Instr) (s t : State), exec i s = .next t →
    (i ≠ .sreset → hostSide t.regs = hostSide s.regs) ∧
    t.cfg = s.cfg ∧ t.pending = s.pending ∧ t.bufEpoch = s.bufEpoch ∧ t.host = s.host ∧ t.replies = s.replies ∧
    t.sched = s.sched

/-! ## Control commands -/

/-- 44_control.md R240. -/
def Obligations.NopOnlyCompletes : Prop :=
  decode 0x00000000 = .ok .nop ∧ ∀ s : State, exec .nop s = .next { s with regs := okRegs s }

/-- 44_control.md R241: every register of the map reads its reset value, STATUS apart; STATUS holds DONE and LASTOP only,
so 0x00010002 for the word 0x00000001; BUF is unchanged; IRQ is low. That PENDING is unchanged too is the model's
deduction (log 5). -/
def Obligations.SresetRestoresEveryRegister : Prop :=
  decode 0x00000001 = .ok .sreset ∧
  ∀ s : State, ∃ t, exec .sreset s = .next t ∧
    (∀ p ∈ resetMap s.cfg, p.1 ≠ 0x008 → busRead t (.reg (regAt p.1.toNat)) .word = p.2) ∧
    t.regs.status = ⟨false, true, false, 0, s.pending.extractLsb' 0 8⟩ ∧
    (s.pending = 0x00000001 → statusWord t.regs.status = 0x00010002) ∧
    { t with regs := s.regs } = s ∧ irq t = false

/-! ## Checksum unit -/

/-- 40_checksum.md R104. -/
def Obligations.Xor8OfASpan : Prop :=
  decode 0x00000010 = .ok .xor8 ∧
  (∀ s : State, s.regs.arg0.toNat + s.regs.arg1.toNat ≤ s.cfg.bufSize →
    exec .xor8 s = .next (okRes0 s ((xor8 (memRead s s.regs.arg0.toNat s.regs.arg1.toNat)).setWidth 32))) ∧
  (∀ s : State, s.cfg.bufSize < s.regs.arg0.toNat + s.regs.arg1.toNat →
    exec .xor8 s = .next (outOfRange s s.cfg.bufSize (s.regs.arg0.toNat + s.regs.arg1.toNat)))

/-- 40_checksum.md R105. -/
def Obligations.Crc16OfASpan : Prop :=
  decode 0x00000011 = .ok .crc16 ∧
  (∀ s : State, s.regs.arg0.toNat + s.regs.arg1.toNat ≤ s.cfg.bufSize →
    exec .crc16 s = .next (okRes0 s ((crc16 (s.regs.crcCfg.extractLsb' 0 16) (s.regs.crcCfg.extractLsb' 16 16)
      (memRead s s.regs.arg0.toNat s.regs.arg1.toNat)).setWidth 32))) ∧
  (∀ s : State, s.cfg.bufSize < s.regs.arg0.toNat + s.regs.arg1.toNat →
    exec .crc16 s = .next (outOfRange s s.cfg.bufSize (s.regs.arg0.toNat + s.regs.arg1.toNat)))

/-- 40_checksum.md R106. -/
def Obligations.AccClrResetsBothAccumulators : Prop :=
  decode 0x00000012 = .ok .accClr ∧
  ∀ s : State, exec .accClr s = .next { s with regs :=
    { okRegs s with
      crcAcc := s.regs.crcCfg.extractLsb' 0 16
      xorAcc := 0
      res0 := (s.regs.crcCfg.extractLsb' 0 16 ^^^ s.regs.crcCfg.extractLsb' 16 16).setWidth 32
      res1 := 0 } }

/-- 40_checksum.md R107. -/
def Obligations.AccFeedFeedsOneByte : Prop :=
  decode 0x00000013 = .ok .accFeed ∧
  (∀ s : State, s.regs.arg0.toNat ≤ 0xFF → exec .accFeed s = .next { s with regs :=
    { okRegs s with
      crcAcc := crcStep s.regs.crcAcc (BitVec.ofNat 8 s.regs.arg0.toNat)
      xorAcc := s.regs.xorAcc ^^^ BitVec.ofNat 8 s.regs.arg0.toNat
      res0 := (crcStep s.regs.crcAcc (BitVec.ofNat 8 s.regs.arg0.toNat) ^^^
        s.regs.crcCfg.extractLsb' 16 16).setWidth 32
      res1 := (s.regs.xorAcc ^^^ BitVec.ofNat 8 s.regs.arg0.toNat).setWidth 32 } }) ∧
  (∀ s : State, 0xFF < s.regs.arg0.toNat → exec .accFeed s = .next (outOfRange s 0xFF s.regs.arg0.toNat))

/-- 40_checksum.md R108. -/
def Obligations.AccSpanFeedsASpan : Prop :=
  decode 0x00000014 = .ok .accSpan ∧
  (∀ s : State, s.regs.arg0.toNat + s.regs.arg1.toNat ≤ s.cfg.bufSize → exec .accSpan s = .next { s with regs :=
    { okRegs s with
      crcAcc := (memRead s s.regs.arg0.toNat s.regs.arg1.toNat).foldl crcStep s.regs.crcAcc
      xorAcc := s.regs.xorAcc ^^^ xor8 (memRead s s.regs.arg0.toNat s.regs.arg1.toNat)
      res0 := ((memRead s s.regs.arg0.toNat s.regs.arg1.toNat).foldl crcStep s.regs.crcAcc ^^^
        s.regs.crcCfg.extractLsb' 16 16).setWidth 32
      res1 := (s.regs.xorAcc ^^^ xor8 (memRead s s.regs.arg0.toNat s.regs.arg1.toNat)).setWidth 32 } }) ∧
  (∀ s : State, s.cfg.bufSize < s.regs.arg0.toNat + s.regs.arg1.toNat →
    exec .accSpan s = .next (outOfRange s s.cfg.bufSize (s.regs.arg0.toNat + s.regs.arg1.toNat)))

/-- 40_checksum.md R108, corner cases: ACC_CLR and then ACC_SPAN over a span gives CRC16 and XOR8 of that span. -/
def Obligations.StreamedChecksumsEqualOneShot : Prop :=
  ∀ s : State, s.regs.arg0.toNat + s.regs.arg1.toNat ≤ s.cfg.bufSize →
    ∃ c u x k, exec .accClr s = .next c ∧ exec .accSpan c = .next u ∧
      exec .xor8 s = .next x ∧ exec .crc16 s = .next k ∧
      u.regs.res0 = k.regs.res0 ∧ u.regs.res1 = x.regs.res0

/-- 40_checksum.md R108, corner cases: ACC_SPAN over two adjacent spans in turn equals ACC_SPAN over their union. -/
def Obligations.AdjacentSpansAccumulateAsOne : Prop :=
  ∀ (s : State) (off n k : Nat), off + (n + k) ≤ s.cfg.bufSize → off + (n + k) < 2 ^ 32 →
    ∃ t u w,
      exec .accSpan { s with regs :=
        { s.regs with arg0 := BitVec.ofNat 32 off, arg1 := BitVec.ofNat 32 n } } = .next t ∧
      exec .accSpan { t with regs :=
        { t.regs with arg0 := BitVec.ofNat 32 (off + n), arg1 := BitVec.ofNat 32 k } } = .next u ∧
      exec .accSpan { s with regs :=
        { s.regs with arg0 := BitVec.ofNat 32 off, arg1 := BitVec.ofNat 32 (n + k) } } = .next w ∧
      u.regs.crcAcc = w.regs.crcAcc ∧ u.regs.xorAcc = w.regs.xorAcc ∧ u.regs.res0 = w.regs.res0 ∧
      u.regs.res1 = w.regs.res1

/-- 40_checksum.md R101: `crc_step` is eight reflected shifts with polynomial 0xA001 of the register XORed with the byte.
R100, R102: xor8 and crc16 take one more byte at a time, from 0 and from INIT; the check values of "123456789". -/
def Obligations.ChecksumAlgorithmsAreTheSpecs : Prop :=
  (∀ (f : Half → Half) (c : Half) (b : Byte),
    (∀ x, f x = if x.getLsbD 0 then (x >>> 1) ^^^ 0xA001 else x >>> 1) →
    crcStep c b = f (f (f (f (f (f (f (f (c ^^^ b.setWidth 16))))))))) ∧
  xor8 [] = 0 ∧ (∀ (l : List Byte) (b : Byte), xor8 (l ++ [b]) = xor8 l ^^^ b) ∧
  (∀ init xorout : Half, crc16 init xorout [] = init ^^^ xorout) ∧
  (∀ (init xorout : Half) (l : List Byte) (b : Byte),
    crc16 init xorout (l ++ [b]) = crcStep (crc16 init xorout l ^^^ xorout) b ^^^ xorout) ∧
  crc16 0xFFFF 0 [0x31, 0x32, 0x33, 0x34, 0x35, 0x36, 0x37, 0x38, 0x39] = 0x4B37 ∧
  crc16 0 0 [0x31, 0x32, 0x33, 0x34, 0x35, 0x36, 0x37, 0x38, 0x39] = 0xBB3D

/-- 40_checksum.md R109: xor8 is invariant under any permutation, crc16 is not, and a span followed by its own xor8 has
xor8 0. -/
def Obligations.XorIsOrderFreeAndCrcIsNot : Prop :=
  (∀ l m : List Byte, l.Perm m → xor8 l = xor8 m) ∧
  crc16 0xFFFF 0 [0x01, 0x02] = 0xE181 ∧ crc16 0xFFFF 0 [0x02, 0x01] = 0x10C1 ∧
  (∀ l : List Byte, xor8 (l ++ [xor8 l]) = 0)

/-- 40_checksum.md R101, R102: with any initial value and final XOR, two spans that differ in exactly one byte have
different CRCs. -/
def Obligations.CrcNoticesAChangedByte : Prop :=
  ∀ (init xorout : Half) (l m : List Byte) (a b : Byte), a ≠ b →
    crc16 init xorout (l ++ a :: m) ≠ crc16 init xorout (l ++ b :: m)

/-! ## Field codec -/

/-- 41_field_codec.md R130. -/
def Obligations.PackTblPacksTwoNibbles : Prop :=
  decode 0x00000020 = .ok .packTbl ∧
  ∀ s : State,
    (15 < s.regs.arg0.toNat → exec .packTbl s = .next (outOfRange s 15 s.regs.arg0.toNat)) ∧
    (s.regs.arg0.toNat ≤ 15 → 15 < s.regs.arg1.toNat →
      exec .packTbl s = .next (outOfRange s 15 s.regs.arg1.toNat)) ∧
    (s.regs.arg0.toNat ≤ 15 → s.regs.arg1.toNat ≤ 15 →
      exec .packTbl s = .next (okRes0 s (BitVec.ofNat 32 (16 * s.regs.arg0.toNat + s.regs.arg1.toNat))))

/-- 41_field_codec.md R131. -/
def Obligations.UnpackTblSplitsTheNibbles : Prop :=
  decode 0x00000021 = .ok .unpackTbl ∧
  ∀ s : State,
    (0xFF < s.regs.arg0.toNat → exec .unpackTbl s = .next (outOfRange s 0xFF s.regs.arg0.toNat)) ∧
    (s.regs.arg0.toNat ≤ 0xFF → exec .unpackTbl s =
      .next (okRes s (BitVec.ofNat 32 (s.regs.arg0.toNat / 16)) (BitVec.ofNat 32 (s.regs.arg0.toNat % 16))))

/-- 41_field_codec.md R132. -/
def Obligations.Split16GivesLowThenHigh : Prop :=
  decode 0x00000022 = .ok .split16 ∧
  ∀ s : State,
    (0xFFFF < s.regs.arg0.toNat → exec .split16 s = .next (outOfRange s 0xFFFF s.regs.arg0.toNat)) ∧
    (s.regs.arg0.toNat ≤ 0xFFFF → exec .split16 s =
      .next (okRes s (BitVec.ofNat 32 (s.regs.arg0.toNat % 256)) (BitVec.ofNat 32 (s.regs.arg0.toNat / 256))))

/-- 41_field_codec.md R133. -/
def Obligations.Join16JoinsLowAndHigh : Prop :=
  decode 0x00000023 = .ok .join16 ∧
  ∀ s : State,
    (0xFF < s.regs.arg0.toNat → exec .join16 s = .next (outOfRange s 0xFF s.regs.arg0.toNat)) ∧
    (s.regs.arg0.toNat ≤ 0xFF → 0xFF < s.regs.arg1.toNat →
      exec .join16 s = .next (outOfRange s 0xFF s.regs.arg1.toNat)) ∧
    (s.regs.arg0.toNat ≤ 0xFF → s.regs.arg1.toNat ≤ 0xFF →
      exec .join16 s = .next (okRes0 s (BitVec.ofNat 32 (256 * s.regs.arg1.toNat + s.regs.arg0.toNat))))

/-- 41_field_codec.md R134, R138: the span is checked before the value; ARG1's two bytes are stored low first by PUT16LE
and high first by PUT16BE, at ARG0 and ARG0 + 1; every other byte of BUF and everything else is unchanged. -/
def Obligations.Put16StoresTwoBytes : Prop :=
  decode 0x00000024 = .ok .put16le ∧ decode 0x00000028 = .ok .put16be ∧
  (∀ (s : State) (i : Instr), i = .put16le ∨ i = .put16be →
    (s.cfg.bufSize < s.regs.arg0.toNat + 2 →
      exec i s = .next (outOfRange s s.cfg.bufSize (s.regs.arg0.toNat + 2))) ∧
    (s.regs.arg0.toNat + 2 ≤ s.cfg.bufSize → 0xFFFF < s.regs.arg1.toNat →
      exec i s = .next (outOfRange s 0xFFFF s.regs.arg1.toNat)) ∧
    (s.regs.arg0.toNat + 2 ≤ s.cfg.bufSize → s.regs.arg1.toNat ≤ 0xFFFF →
      ∃ t, exec i s = .next t ∧ t.regs = okRegs s ∧
        bufByte t s.regs.arg0.toNat =
          BitVec.ofNat 8 (if i = .put16le then s.regs.arg1.toNat else s.regs.arg1.toNat / 256) ∧
        bufByte t (s.regs.arg0.toNat + 1) =
          BitVec.ofNat 8 (if i = .put16le then s.regs.arg1.toNat / 256 else s.regs.arg1.toNat) ∧
        (∀ a, a < s.regs.arg0.toNat ∨ s.regs.arg0.toNat + 2 ≤ a → bufByte t a = bufByte s a) ∧
        { t with regs := s.regs, buf := s.buf } = s))

/-- 41_field_codec.md R136. -/
def Obligations.Put32leStoresFourBytes : Prop :=
  decode 0x00000026 = .ok .put32le ∧
  ∀ s : State,
    (s.cfg.bufSize < s.regs.arg0.toNat + 4 →
      exec .put32le s = .next (outOfRange s s.cfg.bufSize (s.regs.arg0.toNat + 4))) ∧
    (s.regs.arg0.toNat + 4 ≤ s.cfg.bufSize →
      ∃ t, exec .put32le s = .next t ∧ t.regs = okRegs s ∧
        (∀ k, k < 4 → bufByte t (s.regs.arg0.toNat + k) = BitVec.ofNat 8 (s.regs.arg1.toNat / 256 ^ k)) ∧
        (∀ a, a < s.regs.arg0.toNat ∨ s.regs.arg0.toNat + 4 ≤ a → bufByte t a = bufByte s a) ∧
        { t with regs := s.regs, buf := s.buf } = s)

/-- 41_field_codec.md R135, R139: GET16LE and GET16BE read two bytes, zero-extended. -/
def Obligations.Get16LoadsTwoBytes : Prop :=
  decode 0x00000025 = .ok .get16le ∧ decode 0x00000029 = .ok .get16be ∧
  (∀ (s : State) (i : Instr), i = .get16le ∨ i = .get16be → s.cfg.bufSize < s.regs.arg0.toNat + 2 →
    exec i s = .next (outOfRange s s.cfg.bufSize (s.regs.arg0.toNat + 2))) ∧
  (∀ s : State, s.regs.arg0.toNat + 2 ≤ s.cfg.bufSize →
    exec .get16le s = .next (okRes0 s (BitVec.ofNat 32
      ((bufByte s s.regs.arg0.toNat).toNat + 256 * (bufByte s (s.regs.arg0.toNat + 1)).toNat))) ∧
    exec .get16be s = .next (okRes0 s (BitVec.ofNat 32
      (256 * (bufByte s s.regs.arg0.toNat).toNat + (bufByte s (s.regs.arg0.toNat + 1)).toNat))))

/-- 41_field_codec.md R137. -/
def Obligations.Get32leLoadsFourBytes : Prop :=
  decode 0x00000027 = .ok .get32le ∧
  ∀ s : State,
    (s.cfg.bufSize < s.regs.arg0.toNat + 4 →
      exec .get32le s = .next (outOfRange s s.cfg.bufSize (s.regs.arg0.toNat + 4))) ∧
    (s.regs.arg0.toNat + 4 ≤ s.cfg.bufSize →
      exec .get32le s = .next (okRes0 s (BitVec.ofNat 32
        ((bufByte s s.regs.arg0.toNat).toNat + 256 * (bufByte s (s.regs.arg0.toNat + 1)).toNat +
          65536 * (bufByte s (s.regs.arg0.toNat + 2)).toNat +
          16777216 * (bufByte s (s.regs.arg0.toNat + 3)).toNat))))

/-- 41_field_codec.md R141: the code of an attenuation in centi-dB. Only exactly 2550 gives the sentinel 255; every other
value is rounded half up to 0.1 dB and clamped into 0..254, with CLAMPED when the clamp took effect. -/
def Obligations.AttEncRoundsClampsAndKeepsTheSentinel : Prop :=
  decode 0x0000002A = .ok .attEnc ∧
  ∀ s : State,
    (s.regs.arg0.toInt = 2550 → exec .attEnc s = .next (okRes s 255 2)) ∧
    (s.regs.arg0.toInt < 0 → exec .attEnc s = .next (okRes s 0 1)) ∧
    (∀ q : Nat, q ≤ 254 → 0 ≤ s.regs.arg0.toInt → 10 * (q : Int) - 5 ≤ s.regs.arg0.toInt →
      s.regs.arg0.toInt ≤ 10 * (q : Int) + 4 → exec .attEnc s = .next (okRes s (BitVec.ofNat 32 q) 0)) ∧
    (2545 ≤ s.regs.arg0.toInt → s.regs.arg0.toInt ≠ 2550 → exec .attEnc s = .next (okRes s 254 1))

/-- 41_field_codec.md R142. -/
def Obligations.AttDecMultipliesByTen : Prop :=
  decode 0x0000002B = .ok .attDec ∧
  ∀ s : State,
    (0xFF < s.regs.arg0.toNat → exec .attDec s = .next (outOfRange s 0xFF s.regs.arg0.toNat)) ∧
    (s.regs.arg0.toNat ≤ 0xFE → exec .attDec s = .next (okRes s (BitVec.ofNat 32 (10 * s.regs.arg0.toNat)) 0)) ∧
    (s.regs.arg0.toNat = 0xFF → exec .attDec s = .next (okRes s 2550 2))

/-- 41_field_codec.md R144: with STEP not 0 SCALE gives the count of steps nearest to the value, a tie going away from
zero; the count fits in 32 bits; INEXACT says whether the value is no multiple of STEP. STEP = 0 raises
OutOfRange(1, 0). -/
def Obligations.ScaleRoundsToTheNearestStep : Prop :=
  decode 0x0000002C = .ok .scale ∧
  ∀ s : State,
    (s.regs.stepSize.toNat = 0 → exec .scale s = .next (outOfRange s 1 0)) ∧
    (s.regs.stepSize.toNat ≠ 0 → ∃ q : Int,
      exec .scale s = .next (okRes s (BitVec.ofInt 32 q)
        (if (s.regs.stepSize.toNat : Int) ∣ s.regs.arg0.toInt then 0 else 1)) ∧
      -2 ^ 31 ≤ q ∧ q < 2 ^ 31 ∧
      2 * |q * s.regs.stepSize.toNat - s.regs.arg0.toInt| ≤ s.regs.stepSize.toNat ∧
      (2 * |q * s.regs.stepSize.toNat - s.regs.arg0.toInt| = s.regs.stepSize.toNat →
        |s.regs.arg0.toInt| < |q * s.regs.stepSize.toNat|))

/-- 41_field_codec.md R145. -/
def Obligations.UnscaleMultipliesOrRaises : Prop :=
  decode 0x0000002D = .ok .unscale ∧
  ∀ s : State,
    (-2 ^ 31 ≤ s.regs.arg0.toInt * s.regs.stepSize.toNat → s.regs.arg0.toInt * s.regs.stepSize.toNat < 2 ^ 31 →
      ∃ t, exec .unscale s = .next t ∧ t = okRes0 s t.regs.res0 ∧
        t.regs.res0.toInt = s.regs.arg0.toInt * s.regs.stepSize.toNat) ∧
    (s.regs.arg0.toInt * s.regs.stepSize.toNat < -2 ^ 31 ∨
        2 ^ 31 ≤ s.regs.arg0.toInt * s.regs.stepSize.toNat →
      exec .unscale s = .next (failState s 2 0x7FFFFFFF
        (BitVec.ofInt 32 (s.regs.arg0.toInt * s.regs.stepSize.toNat))))

/-- 41_field_codec.md R131, corner cases: UNPACK_TBL of PACK_TBL(h, l) gives h and l. -/
def Obligations.UnpackUndoesPack : Prop :=
  ∀ s : State, s.regs.arg0.toNat ≤ 15 → s.regs.arg1.toNat ≤ 15 →
    ∃ t u, exec .packTbl s = .next t ∧
      exec .unpackTbl { t with regs := { t.regs with arg0 := t.regs.res0 } } = .next u ∧
      u.regs.status.errCode = 0 ∧ u.regs.res0 = s.regs.arg0 ∧ u.regs.res1 = s.regs.arg1

/-- 41_field_codec.md R133, corner cases: SPLIT16 undoes JOIN16 for every byte pair, and JOIN16 undoes SPLIT16. -/
def Obligations.SplitAndJoinAreInverse : Prop :=
  (∀ s : State, s.regs.arg0.toNat ≤ 0xFF → s.regs.arg1.toNat ≤ 0xFF →
    ∃ t u, exec .join16 s = .next t ∧
      exec .split16 { t with regs := { t.regs with arg0 := t.regs.res0 } } = .next u ∧
      u.regs.status.errCode = 0 ∧ u.regs.res0 = s.regs.arg0 ∧ u.regs.res1 = s.regs.arg1) ∧
  (∀ s : State, s.regs.arg0.toNat ≤ 0xFFFF →
    ∃ t u, exec .split16 s = .next t ∧
      exec .join16 { t with regs := { t.regs with arg0 := t.regs.res0, arg1 := t.regs.res1 } } = .next u ∧
      u.regs.status.errCode = 0 ∧ u.regs.res0 = s.regs.arg0)

/-- 41_field_codec.md R134 to R139: what a PUT stored, the GET of the same order reads back at the same offset, and the GET
of the other order reads byte-swapped (R139). -/
def Obligations.GetReadsWhatPutStored : Prop :=
  ∀ s : State,
    (s.regs.arg0.toNat + 2 ≤ s.cfg.bufSize → s.regs.arg1.toNat ≤ 0xFFFF →
      ∃ t u v, exec .put16le s = .next t ∧ exec .get16le t = .next u ∧ exec .get16be t = .next v ∧
        u.regs.res0 = s.regs.arg1 ∧
        v.regs.res0.toNat = 256 * (s.regs.arg1.toNat % 256) + s.regs.arg1.toNat / 256) ∧
    (s.regs.arg0.toNat + 2 ≤ s.cfg.bufSize → s.regs.arg1.toNat ≤ 0xFFFF →
      ∃ t u, exec .put16be s = .next t ∧ exec .get16be t = .next u ∧ u.regs.res0 = s.regs.arg1) ∧
    (s.regs.arg0.toNat + 4 ≤ s.cfg.bufSize →
      ∃ t u, exec .put32le s = .next t ∧ exec .get32le t = .next u ∧ u.regs.res0 = s.regs.arg1)

/-- 41_field_codec.md R142, corner cases: ATT_ENC of ATT_DEC(k) is k for every k in 0..255. R141: ATT_ENC gives 255 for
exactly 2550 centi-dB and for nothing else. -/
def Obligations.AttCodesComeBackAndTheSentinelIsExact : Prop :=
  (∀ s : State, s.regs.arg0.toNat ≤ 0xFF →
    ∃ t u, exec .attDec s = .next t ∧
      exec .attEnc { t with regs := { t.regs with arg0 := t.regs.res0 } } = .next u ∧
      u.regs.res0 = s.regs.arg0) ∧
  (∀ s : State, ∃ t, exec .attEnc s = .next t ∧
    (t.regs.res0 = 255 ↔ s.regs.arg0.toInt = 2550) ∧ t.regs.res0.toNat ≤ 255)

/-- 41_field_codec.md R145, corner cases: UNSCALE(SCALE(v)) = v exactly when SCALE's INEXACT is 0 and STEP is not 0. -/
def Obligations.UnscaleUndoesScaleExactlyWhenExact : Prop :=
  ∀ s : State, s.regs.stepSize.toNat ≠ 0 →
    ∃ t u, exec .scale s = .next t ∧
      exec .unscale { t with regs := { t.regs with arg0 := t.regs.res0 } } = .next u ∧
      ((u.regs.status.errCode = 0 ∧ u.regs.res0 = s.regs.arg0) ↔ t.regs.res1 = 0)

/-! ## Frame builder -/

/-- 42_frame_builder.md R186: the frame around a payload, written out for both formats, n being the length of the command
field, table byte and payload. -/
def Obligations.ComposedFrameLayout : Prop :=
  ∀ (r : Regs) (p tb : List Byte), tb = (if r.descCfg.getLsbD 1 then [r.descTbl] else []) →
    (r.descCfg.getLsbD 0 = false →
      composeFrame r p =
        [0xDD, 0x01, r.descMsgid, BitVec.ofNat 8 (1 + tb.length + p.length), BitVec.ofNat 8 r.descCmd.toNat] ++ tb ++
          p ++
          [xor8 ([r.descMsgid, BitVec.ofNat 8 (1 + tb.length + p.length), BitVec.ofNat 8 r.descCmd.toNat] ++ tb ++ p),
            0xDD, 0x02]) ∧
    (r.descCfg.getLsbD 0 = true → ∀ cw k : Half,
      cw = r.descCmd ||| r.cmdwFlags.extractLsb' 0 16 |||
        (if r.descCfg.getLsbD 1 then r.cmdwFlags.extractLsb' 16 16 else 0) →
      k = crc16 (r.crcCfg.extractLsb' 0 16) (r.crcCfg.extractLsb' 16 16)
        ([r.descMsgid, BitVec.ofNat 8 ((2 + tb.length + p.length) / 256), BitVec.ofNat 8 (2 + tb.length + p.length),
          BitVec.ofNat 8 (cw.toNat / 256), BitVec.ofNat 8 cw.toNat] ++ tb ++ p) →
      composeFrame r p =
        [0xDD, 0x01, r.descMsgid, BitVec.ofNat 8 ((2 + tb.length + p.length) / 256),
          BitVec.ofNat 8 (2 + tb.length + p.length), BitVec.ofNat 8 (cw.toNat / 256), BitVec.ofNat 8 cw.toNat] ++ tb ++
          p ++ [BitVec.ofNat 8 k.toNat, BitVec.ofNat 8 (k.toNat / 256), 0xDD, 0x02])

/-- 42_frame_builder.md R187: BUILD's steps 1 to 5 in order, and what it writes when they all pass. -/
def Obligations.BuildFollowsItsSteps : Prop :=
  decode 0x00000030 = .ok .build ∧
  ∀ (s : State) (n max tot : Nat),
    n = (if s.regs.descCfg.getLsbD 0 then 2 else 1) + (if s.regs.descCfg.getLsbD 1 then 1 else 0) +
      s.regs.payLen.toNat →
    max = (if s.regs.descCfg.getLsbD 0 then 0xFFFF else 0xFF) →
    tot = (if s.regs.descCfg.getLsbD 0 then 9 else 7) + n →
    (s.regs.descCfg.getLsbD 0 = false → 0xFF < s.regs.descCmd.toNat →
      exec .build s = .next (outOfRange s 0xFF s.regs.descCmd.toNat)) ∧
    (s.regs.descCfg.getLsbD 0 = true ∨ s.regs.descCmd.toNat ≤ 0xFF →
      (s.cfg.bufSize < s.regs.payOff.toNat + s.regs.payLen.toNat →
        exec .build s = .next (outOfRange s s.cfg.bufSize (s.regs.payOff.toNat + s.regs.payLen.toNat))) ∧
      (s.regs.payOff.toNat + s.regs.payLen.toNat ≤ s.cfg.bufSize →
        (max < n → exec .build s = .next (payloadTooLarge s max n)) ∧
        (n ≤ max → s.regs.frameMax.toNat < tot →
          exec .build s = .next (payloadTooLarge s s.regs.frameMax.toNat tot)) ∧
        (n ≤ max → tot ≤ s.regs.frameMax.toNat → s.cfg.bufSize < s.regs.txOff.toNat + tot →
          exec .build s = .next (outOfRange s s.cfg.bufSize (s.regs.txOff.toNat + tot))) ∧
        (n ≤ max → tot ≤ s.regs.frameMax.toNat → s.regs.txOff.toNat + tot ≤ s.cfg.bufSize →
          ∃ t, exec .build s = .next t ∧
            memRead t s.regs.txOff.toNat tot =
              composeFrame s.regs (memRead s s.regs.payOff.toNat s.regs.payLen.toNat) ∧
            t.regs = { okRegs s with
              txLen := BitVec.ofNat 16 tot
              res0 := BitVec.ofNat 32 n
              res1 := (checksumOf s.regs (checkedSpan s.regs
                (memRead s s.regs.payOff.toNat s.regs.payLen.toNat))).setWidth 32 } ∧
            (∀ a, a < s.regs.txOff.toNat ∨ s.regs.txOff.toNat + tot ≤ a → bufByte t a = bufByte s a) ∧
            { t with regs := s.regs, buf := s.buf } = s)))

/-- 42_frame_builder.md R184, R188: BUILD_REC's steps 1 to 6 in order, and what it writes when they all pass; the payload
is one 7-byte ChannelRecord per index. -/
def Obligations.BuildRecFollowsItsSteps : Prop :=
  decode 0x00000031 = .ok .buildRec ∧
  ∀ (s : State) (m n tot : Nat) (p : List Byte),
    m = s.regs.chCnt.toNat →
    n = 2 + (if s.regs.descCfg.getLsbD 1 then 1 else 0) + 7 * m →
    tot = 9 + n →
    p = (List.range m).flatMap (fun i =>
      [s.regs.descRec.extractLsb' 0 8, s.regs.descRec.extractLsb' 8 8, s.regs.descRec.extractLsb' 16 8,
       bufByte s (s.regs.chOff.toNat + i), s.regs.descRec.extractLsb' 24 8, bufByte s (s.regs.portOff.toNat + i),
       bufByte s (s.regs.attOff.toNat + i)]) →
    (s.regs.descCfg.getLsbD 0 = false → exec .buildRec s = .next (failState s 10 1 0)) ∧
    (s.regs.descCfg.getLsbD 0 = true →
      (s.regs.portCnt.toNat ≠ m →
        exec .buildRec s = .next (failState s 1 (BitVec.ofNat 32 m) (s.regs.portCnt.setWidth 32))) ∧
      (s.regs.portCnt.toNat = m → s.regs.attCnt.toNat ≠ m →
        exec .buildRec s = .next (failState s 1 (BitVec.ofNat 32 m) (s.regs.attCnt.setWidth 32))) ∧
      (s.regs.portCnt.toNat = m → s.regs.attCnt.toNat = m →
        (s.cfg.bufSize < s.regs.chOff.toNat + m →
          exec .buildRec s = .next (outOfRange s s.cfg.bufSize (s.regs.chOff.toNat + m))) ∧
        (s.regs.chOff.toNat + m ≤ s.cfg.bufSize → s.cfg.bufSize < s.regs.portOff.toNat + m →
          exec .buildRec s = .next (outOfRange s s.cfg.bufSize (s.regs.portOff.toNat + m))) ∧
        (s.regs.chOff.toNat + m ≤ s.cfg.bufSize → s.regs.portOff.toNat + m ≤ s.cfg.bufSize →
          s.cfg.bufSize < s.regs.attOff.toNat + m →
          exec .buildRec s = .next (outOfRange s s.cfg.bufSize (s.regs.attOff.toNat + m))) ∧
        (s.regs.chOff.toNat + m ≤ s.cfg.bufSize → s.regs.portOff.toNat + m ≤ s.cfg.bufSize →
          s.regs.attOff.toNat + m ≤ s.cfg.bufSize →
          (0xFFFF < n → exec .buildRec s = .next (payloadTooLarge s 0xFFFF n)) ∧
          (n ≤ 0xFFFF → s.regs.frameMax.toNat < tot →
            exec .buildRec s = .next (payloadTooLarge s s.regs.frameMax.toNat tot)) ∧
          (n ≤ 0xFFFF → tot ≤ s.regs.frameMax.toNat → s.cfg.bufSize < s.regs.txOff.toNat + tot →
            exec .buildRec s = .next (outOfRange s s.cfg.bufSize (s.regs.txOff.toNat + tot))) ∧
          (n ≤ 0xFFFF → tot ≤ s.regs.frameMax.toNat → s.regs.txOff.toNat + tot ≤ s.cfg.bufSize →
            ∃ t, exec .buildRec s = .next t ∧
              memRead t s.regs.txOff.toNat tot = composeFrame s.regs p ∧
              t.regs = { okRegs s with
                txLen := BitVec.ofNat 16 tot
                res0 := BitVec.ofNat 32 n
                res1 := (checksumOf s.regs (checkedSpan s.regs p)).setWidth 32 } ∧
              (∀ a, a < s.regs.txOff.toNat ∨ s.regs.txOff.toNat + tot ≤ a → bufByte t a = bufByte s a) ∧
              { t with regs := s.regs, buf := s.buf } = s))))

/-- 42_frame_builder.md R189: the laws (a) to (f) of every frame BUILD or BUILD_REC writes, read back from BUF. -/
def Obligations.EveryBuiltFrameObeysTheFrameLaws : Prop :=
  ∀ (i : Instr) (s t : State) (tx tot ckw : Nat), i = .build ∨ i = .buildRec → exec i s = .next t →
    t.regs.status.errCode = 0 → tx = s.regs.txOff.toNat → tot = t.regs.txLen.toNat →
    ckw = (if s.regs.descCfg.getLsbD 0 then 2 else 1) →
    bufByte t tx = 0xDD ∧ bufByte t (tx + 1) = 0x01 ∧
    bufByte t (tx + (tot - 2)) = 0xDD ∧ bufByte t (tx + (tot - 1)) = 0x02 ∧
    bufByte t (tx + 2) = s.regs.descMsgid ∧
    (s.regs.descCfg.getLsbD 0 = false →
      (bufByte t (tx + 3)).toNat = tot - 7 ∧
      xor8 (memRead t (tx + 2) (tot - 4 - ckw)) = bufByte t (tx + (tot - 3)) ∧
      xor8 (memRead t (tx + 2) (tot - 4)) = 0) ∧
    (s.regs.descCfg.getLsbD 0 = true →
      256 * (bufByte t (tx + 3)).toNat + (bufByte t (tx + 4)).toNat = tot - 9 ∧
      crc16 (s.regs.crcCfg.extractLsb' 0 16) (s.regs.crcCfg.extractLsb' 16 16)
        (memRead t (tx + 2) (tot - 4 - ckw)) =
          bufByte t (tx + (tot - 3)) ++ bufByte t (tx + (tot - 4))) ∧
    (i = .buildRec → tot = 9 + (7 * s.regs.chCnt.toNat + 2 + (if s.regs.descCfg.getLsbD 1 then 1 else 0)))

/-! ## Response validator -/

/-- 43_response_validator.md R210, R213, R214, R217: where the fields of a response frame lie in each format. -/
def Obligations.ResponseFieldsLieWhereTheFormatSays : Prop :=
  ∀ (s : State) (o n : Nat), o = s.regs.rxOff.toNat → n = s.regs.rxLen.toNat →
    (rxStart s).toNat = 256 * (bufByte s o).toNat + (bufByte s (o + 1)).toNat ∧
    (rxStop s).toNat = 256 * (bufByte s (o + (n - 2))).toNat + (bufByte s (o + (n - 1))).toNat ∧
    (s.regs.descCfg.getLsbD 0 = false →
      resultAt s.regs = 4 + s.regs.resultOff.toNat ∧ minFrame s.regs = 8 + s.regs.resultOff.toNat ∧
      rxDeclared s = (bufByte s (o + 3)).setWidth 16 ∧ rxReceived s = (bufByte s (o + (n - 3))).setWidth 16 ∧
      rxCalc s = (xor8 (memRead s (o + 2) (n - 5))).setWidth 16) ∧
    (s.regs.descCfg.getLsbD 0 = true →
      resultAt s.regs = 5 + s.regs.resultOff.toNat ∧ minFrame s.regs = 10 + s.regs.resultOff.toNat ∧
      (rxDeclared s).toNat = 256 * (bufByte s (o + 3)).toNat + (bufByte s (o + 4)).toNat ∧
      (rxReceived s).toNat = (bufByte s (o + (n - 4))).toNat + 256 * (bufByte s (o + (n - 3))).toNat ∧
      rxCalc s = crc16 (s.regs.crcCfg.extractLsb' 0 16) (s.regs.crcCfg.extractLsb' 16 16)
        (memRead s (o + 2) (n - 6)))

/-- 43_response_validator.md R212 to R219: PARSE's checks in order, each with its error, and what it writes when they all
pass. -/
def Obligations.ParseReportsTheFirstFailingCheck : Prop :=
  decode 0x00000038 = .ok .parse ∧
  ∀ (s : State) (o n : Nat), o = s.regs.rxOff.toNat → n = s.regs.rxLen.toNat →
    (s.cfg.bufSize < o + n → exec .parse s = .next (outOfRange s s.cfg.bufSize (o + n))) ∧
    (o + n ≤ s.cfg.bufSize →
      (n < minFrame s.regs →
        exec .parse s = .next (failState s 5 (BitVec.ofNat 32 (minFrame s.regs)) (BitVec.ofNat 32 n))) ∧
      (minFrame s.regs ≤ n →
        (rxStart s ≠ 0xDD01 → exec .parse s = .next (failState s 5 0xDD01 ((rxStart s).setWidth 32))) ∧
        (rxStart s = 0xDD01 → rxStop s ≠ 0xDD02 →
          exec .parse s = .next (failState s 5 0xDD02 ((rxStop s).setWidth 32))) ∧
        (rxStart s = 0xDD01 → rxStop s = 0xDD02 →
          (s.regs.ctrl.getLsbD 1 = true → rxCalc s ≠ rxReceived s →
            exec .parse s = .next (failState s 9 ((rxCalc s).setWidth 32) ((rxReceived s).setWidth 32))) ∧
          ((s.regs.ctrl.getLsbD 1 = true → rxCalc s = rxReceived s) →
            (bufByte s (o + 2) ≠ s.regs.descMsgid →
              exec .parse s = .next (failState s 6 (s.regs.descMsgid.setWidth 32)
                ((bufByte s (o + 2)).setWidth 32))) ∧
            (bufByte s (o + 2) = s.regs.descMsgid → bufByte s (o + resultAt s.regs) ≠ s.regs.okCode →
              exec .parse s = .next (failState s 8 (s.regs.okCode.setWidth 32)
                ((bufByte s (o + resultAt s.regs)).setWidth 32))) ∧
            (bufByte s (o + 2) = s.regs.descMsgid → bufByte s (o + resultAt s.regs) = s.regs.okCode →
              (s.regs.descCfg.getLsbD 2 = true → rxDeclared s ≠ s.regs.descResplen →
                exec .parse s = .next (failState s 7 (s.regs.descResplen.setWidth 32)
                  ((rxDeclared s).setWidth 32))) ∧
              ((s.regs.descCfg.getLsbD 2 = true → rxDeclared s = s.regs.descResplen) →
                exec .parse s = .next { s with regs :=
                  { okRegs s with
                    dataOff := BitVec.ofNat 16 (o + resultAt s.regs + 1)
                    dataLen := BitVec.ofNat 16
                      (n - resultAt s.regs - 3 - (if s.regs.descCfg.getLsbD 0 then 2 else 1))
                    rxMsgid := bufByte s (o + 2)
                    rxResult := bufByte s (o + resultAt s.regs)
                    rxDeclLen := rxDeclared s
                    rxCksum := rxReceived s
                    rxCksumCalc := rxCalc s } }))))))

/-- 42_frame_builder.md R180 to R186 against 43_response_validator.md R210 to R219: a frame BUILD wrote, handed to PARSE
under the same descriptor with RESULT_OFF = 0, never fails the span, framing, checksum or message id check. PARSE either
succeeds, and then reports equal checksums, or ends at the result byte or the declared length. -/
def Obligations.ParseFindsNoFramingFaultInABuiltFrame : Prop :=
  ∀ s t : State, exec .build s = .next t → t.regs.status.errCode = 0 →
    ∃ u, exec .parse { t with regs :=
        { t.regs with rxOff := t.regs.txOff, rxLen := t.regs.txLen, resultOff := 0 } } = .next u ∧
      (u.regs.status.errCode = 0 ∨ u.regs.status.errCode = 7 ∨ u.regs.status.errCode = 8) ∧
      (u.regs.status.errCode = 0 → u.regs.rxCksum = u.regs.rxCksumCalc ∧ u.regs.rxMsgid = s.regs.descMsgid)

/-! ## Snapshot and interleaving -/

/-- 00_scope.md R15, R19: a command's result depends only on the registers, PENDING, BUF_SIZE and the BUF bytes: two states
that agree on those, however their BUF bytes came to be and whatever their hosts do, are taken to states that agree on
the registers and on every byte of BUF again. -/
def Obligations.CommandsDependOnlyOnTheSnapshot : Prop :=
  ∀ (i : Instr) (s t : State), sameInputs s t →
    ∃ s' t', exec i s = .next s' ∧ exec i t = .next t' ∧ sameInputs s' t'

/-- 10_state.md R47, 20_memory.md R68: a read of STATUS or ID made while a command runs completes at once, changes nothing
of HCE, and the command completes as it would have without the read. That these are the 32-bit reads is log 8, the
interleaving is log 7. -/
def Obligations.PollingDoesNotDisturbACommand : Prop :=
  ∀ (s : State) (a : HostAccess) (rest : List HostAccess) (q : List Turn),
    s.regs.status.busy = true → s.host = a :: rest →
    a.op = .read → a.width = .word → a.off = 0x000 ∨ a.off = 0x008 →
    ∃ r t u, step { s with sched := .host :: .engine :: q } = .next r ∧ step r = .next t ∧
      step { s with sched := .engine :: q } = .next u ∧
      { r with host := s.host, replies := s.replies, sched := s.sched } = s ∧
      { t with host := u.host, replies := u.replies } = u ∧
      t.host = rest ∧
      t.replies = .data (if a.off = 0x008 then statusWord s.regs.status else s.cfg.idValue) :: s.replies

/-- 10_state.md R47: while BUSY = 1 every access but the reads of STATUS and ID is held: the host's turn passes, the access
stays the next one to be made, and nothing else changes. 20_memory.md R71, R72: every other access, any one while BUSY = 0
and a read of STATUS or ID at all times, is performed in the host's turn: the step is `hostAccess` of it and the access is
made. The turns are the model's schedule (log 7), that the reads of STATUS and ID are the 32-bit ones is log 8. -/
def Obligations.OtherAccessesStallWhileBusy : Prop :=
  ∀ (s : State) (a : HostAccess) (rest : List HostAccess), nextTurn s = .host → s.host = a :: rest →
    (s.regs.status.busy = true → ¬(a.op = .read ∧ a.width = .word ∧ (a.off = 0x000 ∨ a.off = 0x008)) →
      step s = .next (takeTurn s)) ∧
    (s.regs.status.busy = false ∨ (a.op = .read ∧ a.width = .word ∧ (a.off = 0x000 ∨ a.off = 0x008)) →
      step s = hostAccess { takeTurn s with host := rest } a)

/-! ## The invariant -/

/-- Every step from a state with the invariant leads to one: the canonical form of BUF's bytes, the error codes R255
produces, ERR_EXP and ERR_ACT 0 after a success, a defined LASTOP, the frame and the data slice inside BUF. -/
def Obligations.StepKeepsTheInvariant : Prop :=
  ∀ s t : State, Inv s → step s = .next t → Inv t

/-- The invariant holds right after a hardware reset. -/
def Obligations.ResetHasTheInvariant : Prop := Inv State.reset

/-! ## Host accesses -/

/-- 10_state.md section 2, R23, R27, R29 to R42: each RW offset of the map holds its own register: in every state a read
answers that field and a write stores the low bits of its value in that field and changes nothing else. R21: so the host
reads back what it last wrote, reserved bits excepted. R48, 20_memory.md R69: every other register of the map reads as
before, no register aliases another, and BUF, PENDING, the parameters and the draw are unchanged. That an answer is recorded
in `replies` and that the host's list and the schedule stay is the model's (logs 6, 7). -/
def Obligations.HostReadsBackWhatItWrote : Prop :=
  rwFields.map RwField.off = rwMap.map Prod.fst ∧
  (∀ (s : State) (v : Word), ∀ f ∈ rwFields,
    hostAccess s ⟨f.off, .word, .read⟩ = .next { s with replies := .data (f.get s.regs) :: s.replies } ∧
    hostAccess s ⟨f.off, .word, .write v⟩ =
      .next { s with regs := f.set s.regs v, replies := .written :: s.replies }) ∧
  ∀ (s : State) (p : BitVec 17 × Word) (v : Word), p ∈ rwMap →
    ∃ t u, hostAccess s ⟨p.1, .word, .write v⟩ = .next t ∧ hostAccess t ⟨p.1, .word, .read⟩ = .next u ∧
      t.replies = .written :: s.replies ∧ u = { t with replies := .data (v &&& p.2) :: t.replies } ∧
      (∀ q ∈ resetMap s.cfg, q.1 ≠ p.1 → ∃ x,
        hostAccess s ⟨q.1, .word, .read⟩ = .next { s with replies := .data x :: s.replies } ∧
        hostAccess t ⟨q.1, .word, .read⟩ = .next { t with replies := .data x :: t.replies }) ∧
      t.regs.status = s.regs.status ∧ t.pending = s.pending ∧ t.buf = s.buf ∧ t.cfg = s.cfg ∧
      t.bufEpoch = s.bufEpoch ∧ t.host = s.host ∧ t.sched = s.sched

/-- 10_state.md R21, R46: a write to an RO register or to a reserved offset is ignored, and a reserved offset reads 0. R22,
R26, R28, R41, R43 to R45: in every state a read of each RO offset answers that register's own field, zero-extended, ID and
BUFSZ the parameters. That an answer is recorded in `replies` is the model's (log 6). -/
def Obligations.ReadOnlyAndReservedOffsetsIgnoreWrites : Prop :=
  roFields.map Prod.fst = roMap ∧
  (∀ s : State, ∀ f ∈ roFields,
    hostAccess s ⟨f.1, .word, .read⟩ = .next { s with replies := .data (f.2 s) :: s.replies }) ∧
  (∀ (s : State) (off : BitVec 17) (v : Word),
    off ∈ roMap ∨ (0x0B0 ≤ off.toNat ∧ off.toNat < 0x1000 ∧ off.toNat % 4 = 0) →
    hostAccess s ⟨off, .word, .write v⟩ = .next { s with replies := .written :: s.replies }) ∧
  (∀ (s : State) (off : BitVec 17), 0x0B0 ≤ off.toNat → off.toNat < 0x1000 → off.toNat % 4 = 0 →
    hostAccess s ⟨off, .word, .read⟩ = .next { s with replies := .data 0 :: s.replies })

/-- 10_state.md R24, R25: STATUS's fields lie in the word a host reads where the map says, the reserved bits reading 0; a
write to STATUS clears DONE and ERR where it writes 1 and changes no other field; a write to CMD sets BUSY and PENDING and
nothing else; CMD reads 0. -/
def Obligations.StatusReadsAndClearsByOneAndCmdIssues : Prop :=
  (∀ st : Status, (statusWord st).toNat =
    (if st.busy then 1 else 0) + 2 * (if st.done then 1 else 0) + 4 * (if st.err then 1 else 0) +
      256 * st.errCode.toNat + 65536 * st.lastOp.toNat) ∧
  ∀ (s : State) (v : Word),
    hostAccess s ⟨0x008, .word, .read⟩ = .next { s with replies := .data (statusWord s.regs.status) :: s.replies } ∧
    hostAccess s ⟨0x008, .word, .write v⟩ = .next { s with
      replies := .written :: s.replies
      regs := { s.regs with status := { s.regs.status with
        done := s.regs.status.done && !v.getLsbD 1
        err := s.regs.status.err && !v.getLsbD 2 } } } ∧
    hostAccess s ⟨0x00C, .word, .write v⟩ = .next { s with
      replies := .written :: s.replies
      pending := v
      regs := { s.regs with status := { s.regs.status with busy := true } } } ∧
    hostAccess s ⟨0x00C, .word, .read⟩ = .next { s with replies := .data 0 :: s.replies }

/-- 20_memory.md R60, R62, R63: a host access is a bus error exactly when it is not admitted: in the register region a
32-bit access at a multiple of 4, in BUF a naturally aligned access wholly inside. No access is refused. -/
def Obligations.BusErrorsAreExactlyTheUnadmittedAccesses : Prop :=
  ∀ (s : State) (a : HostAccess),
    ((∃ e, hostAccess s a = .fault e) ↔ ¬admitted s.cfg.bufSize a) ∧
    ((∃ t, hostAccess s a = .next t) ↔ admitted s.cfg.bufSize a)

/-- 60_exceptions.md R250, R251, 20_memory.md R62: no step is refused, and a step faults only at a host access that is not
admitted. That it faults only in the host's turn is the model's schedule (log 7); that an access held by 10_state.md R47
does not fault while BUSY = 1, also one that is not admitted, is the model's deduction (log 8). -/
def Obligations.OnlyHostAccessesFault : Prop :=
  ∀ s : State,
    (∀ r, step s ≠ .refused r) ∧
    (∀ e, step s = .fault e → nextTurn s = .host ∧
      ∃ a rest, s.host = a :: rest ∧ stalls s a = false ∧ ¬admitted s.cfg.bufSize a)

/-- 20_memory.md R61, R64: an admitted access of n bytes at buffer offset a reads the little-endian value of
`BUF[a] .. BUF[a+n-1]`, and writes bits [8k+7:8k] of its value into `BUF[a+k]` and nothing else. -/
def Obligations.BufAccessesAreLittleEndian : Prop :=
  ∀ (s : State) (w : Width) (off : BitVec 17) (v : Word), 0x1000 ≤ off.toNat →
    off.toNat % widthBytes w = 0 → off.toNat + widthBytes w ≤ 0x1000 + s.cfg.bufSize →
    (∃ x : Word, hostAccess s ⟨off, w, .read⟩ = .next { s with replies := .data x :: s.replies } ∧
      x.toNat < 256 ^ widthBytes w ∧
      ∀ k, k < widthBytes w → x.extractLsb' (8 * k) 8 = bufByte s (off.toNat - 0x1000 + k)) ∧
    (∃ t, hostAccess s ⟨off, w, .write v⟩ = .next t ∧
      (∀ k, k < widthBytes w → bufByte t (off.toNat - 0x1000 + k) = v.extractLsb' (8 * k) 8) ∧
      (∀ a, a < off.toNat - 0x1000 ∨ off.toNat - 0x1000 + widthBytes w ≤ a → bufByte t a = bufByte s a) ∧
      { t with buf := s.buf, replies := s.replies } = s ∧ t.replies = .written :: s.replies)

/-- 20_memory.md R69: no host read anywhere in the window has a side effect: only the answer on the bus is new. -/
def Obligations.HostReadsHaveNoSideEffect : Prop :=
  ∀ (s t : State) (off : BitVec 17) (w : Width), hostAccess s ⟨off, w, .read⟩ = .next t →
    ∃ x, t = { s with replies := .data x :: s.replies }

/-- 20_memory.md R60: the bus addresses of the window are BASE + off for the 17-bit offsets, and BASE is aligned to
0x20000. -/
def Obligations.WindowHoldsExactlyItsOffsets : Prop :=
  Config.base % 0x20000 = 0 ∧
  (∀ off : BitVec 17, windowOffset (Config.base + off.toNat) = some off) ∧
  (∀ (addr : Nat) (off : BitVec 17), windowOffset addr = some off → addr = Config.base + off.toNat)

/-- 60_exceptions.md R260: IRQ is CTRL.IRQ_EN and STATUS.DONE; low after reset; a W1C write of DONE and a write of 0 to
CTRL.IRQ_EN both make it low. -/
def Obligations.IrqFollowsEnableAndDone : Prop :=
  irq State.reset = false ∧
  ∀ s : State,
    (irq s = true ↔ s.regs.ctrl.getLsbD 0 = true ∧ s.regs.status.done = true) ∧
    (∀ v : Word, v.getLsbD 1 = true →
      ∃ t, hostAccess s ⟨0x008, .word, .write v⟩ = .next t ∧ irq t = false) ∧
    (∀ v : Word, v.getLsbD 0 = false →
      ∃ t, hostAccess s ⟨0x004, .word, .write v⟩ = .next t ∧ irq t = false)

/-! ## Reset -/

/-- 10_state.md R52: the register map's reset column, as the host reads it right after a hardware reset, with the values of
ID (R22) and BUF_SIZE (00_scope.md R10) the spec decides. -/
def Obligations.ResetMapIsTheSpecs : Prop :=
  State.reset.cfg.idValue = 0x48434507 ∧ State.reset.cfg.bufSize = 4096 ∧
  ∀ p ∈ resetMap State.reset.cfg, busRead State.reset (.reg (regAt p.1.toNat)) .word = p.2

/-- 70_reset_and_hazards.md R280, R281: a hardware reset, at any time and also while a command runs, sets every register to
its reset value and STATUS and IRQ to 0, and every BUF byte to a draw: the free value of log 2, under no law. That the
draw changes with the epoch counter is the model's choice (log 3); this statement says only which draw is read. -/
def Obligations.HardwareResetAtAnyTime : Prop :=
  ∀ s : State, nextTurn s = .reset → ∃ t, step s = .next t ∧
    (∀ p ∈ resetMap s.cfg, busRead t (.reg (regAt p.1.toNat)) .word = p.2) ∧
    statusWord t.regs.status = 0 ∧ irq t = false ∧
    (∀ a, bufByte t a = Config.bufDraw t.bufEpoch a) ∧
    t.cfg = s.cfg ∧ t.host = s.host ∧ t.replies = s.replies
end

