-- ==== Sys2Proof/Laws/State.lean ====
section
/-! SUPPORT. One lemma per field per update, each true by rfl, so that no later proof unfolds a record update. -/

namespace Sys2Proof.Machine

/-! ## complete (60_exceptions.md R252) -/

@[simp] theorem complete_cfg (s : State) : (complete s).cfg = s.cfg := rfl
@[simp] theorem complete_pending (s : State) : (complete s).pending = s.pending := rfl
@[simp] theorem complete_buf (s : State) : (complete s).buf = s.buf := rfl
@[simp] theorem complete_bufEpoch (s : State) : (complete s).bufEpoch = s.bufEpoch := rfl
@[simp] theorem complete_host (s : State) : (complete s).host = s.host := rfl
@[simp] theorem complete_replies (s : State) : (complete s).replies = s.replies := rfl
@[simp] theorem complete_sched (s : State) : (complete s).sched = s.sched := rfl
@[simp] theorem complete_regs_ctrl (s : State) : (complete s).regs.ctrl = s.regs.ctrl := rfl
@[simp] theorem complete_regs_arg0 (s : State) : (complete s).regs.arg0 = s.regs.arg0 := rfl
@[simp] theorem complete_regs_arg1 (s : State) : (complete s).regs.arg1 = s.regs.arg1 := rfl
@[simp] theorem complete_regs_res0 (s : State) : (complete s).regs.res0 = s.regs.res0 := rfl
@[simp] theorem complete_regs_res1 (s : State) : (complete s).regs.res1 = s.regs.res1 := rfl
@[simp] theorem complete_regs_crcCfg (s : State) : (complete s).regs.crcCfg = s.regs.crcCfg := rfl
@[simp] theorem complete_regs_crcAcc (s : State) : (complete s).regs.crcAcc = s.regs.crcAcc := rfl
@[simp] theorem complete_regs_xorAcc (s : State) : (complete s).regs.xorAcc = s.regs.xorAcc := rfl
@[simp] theorem complete_regs_stepSize (s : State) : (complete s).regs.stepSize = s.regs.stepSize := rfl
@[simp] theorem complete_regs_frameMax (s : State) : (complete s).regs.frameMax = s.regs.frameMax := rfl
@[simp] theorem complete_regs_okCode (s : State) : (complete s).regs.okCode = s.regs.okCode := rfl
@[simp] theorem complete_regs_descCfg (s : State) : (complete s).regs.descCfg = s.regs.descCfg := rfl
@[simp] theorem complete_regs_descMsgid (s : State) : (complete s).regs.descMsgid = s.regs.descMsgid := rfl
@[simp] theorem complete_regs_descCmd (s : State) : (complete s).regs.descCmd = s.regs.descCmd := rfl
@[simp] theorem complete_regs_descTbl (s : State) : (complete s).regs.descTbl = s.regs.descTbl := rfl
@[simp] theorem complete_regs_descResplen (s : State) : (complete s).regs.descResplen = s.regs.descResplen := rfl
@[simp] theorem complete_regs_descRec (s : State) : (complete s).regs.descRec = s.regs.descRec := rfl
@[simp] theorem complete_regs_cmdwFlags (s : State) : (complete s).regs.cmdwFlags = s.regs.cmdwFlags := rfl
@[simp] theorem complete_regs_resultOff (s : State) : (complete s).regs.resultOff = s.regs.resultOff := rfl
@[simp] theorem complete_regs_payOff (s : State) : (complete s).regs.payOff = s.regs.payOff := rfl
@[simp] theorem complete_regs_payLen (s : State) : (complete s).regs.payLen = s.regs.payLen := rfl
@[simp] theorem complete_regs_chOff (s : State) : (complete s).regs.chOff = s.regs.chOff := rfl
@[simp] theorem complete_regs_chCnt (s : State) : (complete s).regs.chCnt = s.regs.chCnt := rfl
@[simp] theorem complete_regs_portOff (s : State) : (complete s).regs.portOff = s.regs.portOff := rfl
@[simp] theorem complete_regs_portCnt (s : State) : (complete s).regs.portCnt = s.regs.portCnt := rfl
@[simp] theorem complete_regs_attOff (s : State) : (complete s).regs.attOff = s.regs.attOff := rfl
@[simp] theorem complete_regs_attCnt (s : State) : (complete s).regs.attCnt = s.regs.attCnt := rfl
@[simp] theorem complete_regs_txOff (s : State) : (complete s).regs.txOff = s.regs.txOff := rfl
@[simp] theorem complete_regs_txLen (s : State) : (complete s).regs.txLen = s.regs.txLen := rfl
@[simp] theorem complete_regs_rxOff (s : State) : (complete s).regs.rxOff = s.regs.rxOff := rfl
@[simp] theorem complete_regs_rxLen (s : State) : (complete s).regs.rxLen = s.regs.rxLen := rfl
@[simp] theorem complete_regs_dataOff (s : State) : (complete s).regs.dataOff = s.regs.dataOff := rfl
@[simp] theorem complete_regs_dataLen (s : State) : (complete s).regs.dataLen = s.regs.dataLen := rfl
@[simp] theorem complete_regs_rxMsgid (s : State) : (complete s).regs.rxMsgid = s.regs.rxMsgid := rfl
@[simp] theorem complete_regs_rxResult (s : State) : (complete s).regs.rxResult = s.regs.rxResult := rfl
@[simp] theorem complete_regs_rxDeclLen (s : State) : (complete s).regs.rxDeclLen = s.regs.rxDeclLen := rfl
@[simp] theorem complete_regs_rxCksum (s : State) : (complete s).regs.rxCksum = s.regs.rxCksum := rfl
@[simp] theorem complete_regs_rxCksumCalc (s : State) : (complete s).regs.rxCksumCalc = s.regs.rxCksumCalc := rfl
@[simp] theorem complete_regs_errExp (s : State) : (complete s).regs.errExp = 0 := rfl
@[simp] theorem complete_regs_errAct (s : State) : (complete s).regs.errAct = 0 := rfl
@[simp] theorem complete_regs_status (s : State) :
    (complete s).regs.status = statusComplete (lastOpOf s) s.regs.status := rfl

/-! ## raise (60_exceptions.md R253) -/

@[simp] theorem raise_cfg (e : ErrorKind) (x a : Word) (s : State) : (raise e x a s).cfg = s.cfg := rfl
@[simp] theorem raise_pending (e : ErrorKind) (x a : Word) (s : State) : (raise e x a s).pending = s.pending := rfl
@[simp] theorem raise_buf (e : ErrorKind) (x a : Word) (s : State) : (raise e x a s).buf = s.buf := rfl
@[simp] theorem raise_bufEpoch (e : ErrorKind) (x a : Word) (s : State) : (raise e x a s).bufEpoch = s.bufEpoch := rfl
@[simp] theorem raise_host (e : ErrorKind) (x a : Word) (s : State) : (raise e x a s).host = s.host := rfl
@[simp] theorem raise_replies (e : ErrorKind) (x a : Word) (s : State) : (raise e x a s).replies = s.replies := rfl
@[simp] theorem raise_sched (e : ErrorKind) (x a : Word) (s : State) : (raise e x a s).sched = s.sched := rfl
@[simp] theorem raise_regs_ctrl (e : ErrorKind) (x a : Word) (s : State) :
    (raise e x a s).regs.ctrl = s.regs.ctrl := rfl
@[simp] theorem raise_regs_arg0 (e : ErrorKind) (x a : Word) (s : State) :
    (raise e x a s).regs.arg0 = s.regs.arg0 := rfl
@[simp] theorem raise_regs_arg1 (e : ErrorKind) (x a : Word) (s : State) :
    (raise e x a s).regs.arg1 = s.regs.arg1 := rfl
@[simp] theorem raise_regs_res0 (e : ErrorKind) (x a : Word) (s : State) :
    (raise e x a s).regs.res0 = s.regs.res0 := rfl
@[simp] theorem raise_regs_res1 (e : ErrorKind) (x a : Word) (s : State) :
    (raise e x a s).regs.res1 = s.regs.res1 := rfl
@[simp] theorem raise_regs_crcCfg (e : ErrorKind) (x a : Word) (s : State) :
    (raise e x a s).regs.crcCfg = s.regs.crcCfg := rfl
@[simp] theorem raise_regs_crcAcc (e : ErrorKind) (x a : Word) (s : State) :
    (raise e x a s).regs.crcAcc = s.regs.crcAcc := rfl
@[simp] theorem raise_regs_xorAcc (e : ErrorKind) (x a : Word) (s : State) :
    (raise e x a s).regs.xorAcc = s.regs.xorAcc := rfl
@[simp] theorem raise_regs_stepSize (e : ErrorKind) (x a : Word) (s : State) :
    (raise e x a s).regs.stepSize = s.regs.stepSize := rfl
@[simp] theorem raise_regs_frameMax (e : ErrorKind) (x a : Word) (s : State) :
    (raise e x a s).regs.frameMax = s.regs.frameMax := rfl
@[simp] theorem raise_regs_okCode (e : ErrorKind) (x a : Word) (s : State) :
    (raise e x a s).regs.okCode = s.regs.okCode := rfl
@[simp] theorem raise_regs_descCfg (e : ErrorKind) (x a : Word) (s : State) :
    (raise e x a s).regs.descCfg = s.regs.descCfg := rfl
@[simp] theorem raise_regs_descMsgid (e : ErrorKind) (x a : Word) (s : State) :
    (raise e x a s).regs.descMsgid = s.regs.descMsgid := rfl
@[simp] theorem raise_regs_descCmd (e : ErrorKind) (x a : Word) (s : State) :
    (raise e x a s).regs.descCmd = s.regs.descCmd := rfl
@[simp] theorem raise_regs_descTbl (e : ErrorKind) (x a : Word) (s : State) :
    (raise e x a s).regs.descTbl = s.regs.descTbl := rfl
@[simp] theorem raise_regs_descResplen (e : ErrorKind) (x a : Word) (s : State) :
    (raise e x a s).regs.descResplen = s.regs.descResplen := rfl
@[simp] theorem raise_regs_descRec (e : ErrorKind) (x a : Word) (s : State) :
    (raise e x a s).regs.descRec = s.regs.descRec := rfl
@[simp] theorem raise_regs_cmdwFlags (e : ErrorKind) (x a : Word) (s : State) :
    (raise e x a s).regs.cmdwFlags = s.regs.cmdwFlags := rfl
@[simp] theorem raise_regs_resultOff (e : ErrorKind) (x a : Word) (s : State) :
    (raise e x a s).regs.resultOff = s.regs.resultOff := rfl
@[simp] theorem raise_regs_payOff (e : ErrorKind) (x a : Word) (s : State) :
    (raise e x a s).regs.payOff = s.regs.payOff := rfl
@[simp] theorem raise_regs_payLen (e : ErrorKind) (x a : Word) (s : State) :
    (raise e x a s).regs.payLen = s.regs.payLen := rfl
@[simp] theorem raise_regs_chOff (e : ErrorKind) (x a : Word) (s : State) :
    (raise e x a s).regs.chOff = s.regs.chOff := rfl
@[simp] theorem raise_regs_chCnt (e : ErrorKind) (x a : Word) (s : State) :
    (raise e x a s).regs.chCnt = s.regs.chCnt := rfl
@[simp] theorem raise_regs_portOff (e : ErrorKind) (x a : Word) (s : State) :
    (raise e x a s).regs.portOff = s.regs.portOff := rfl
@[simp] theorem raise_regs_portCnt (e : ErrorKind) (x a : Word) (s : State) :
    (raise e x a s).regs.portCnt = s.regs.portCnt := rfl
@[simp] theorem raise_regs_attOff (e : ErrorKind) (x a : Word) (s : State) :
    (raise e x a s).regs.attOff = s.regs.attOff := rfl
@[simp] theorem raise_regs_attCnt (e : ErrorKind) (x a : Word) (s : State) :
    (raise e x a s).regs.attCnt = s.regs.attCnt := rfl
@[simp] theorem raise_regs_txOff (e : ErrorKind) (x a : Word) (s : State) :
    (raise e x a s).regs.txOff = s.regs.txOff := rfl
@[simp] theorem raise_regs_txLen (e : ErrorKind) (x a : Word) (s : State) :
    (raise e x a s).regs.txLen = s.regs.txLen := rfl
@[simp] theorem raise_regs_rxOff (e : ErrorKind) (x a : Word) (s : State) :
    (raise e x a s).regs.rxOff = s.regs.rxOff := rfl
@[simp] theorem raise_regs_rxLen (e : ErrorKind) (x a : Word) (s : State) :
    (raise e x a s).regs.rxLen = s.regs.rxLen := rfl
@[simp] theorem raise_regs_dataOff (e : ErrorKind) (x a : Word) (s : State) :
    (raise e x a s).regs.dataOff = s.regs.dataOff := rfl
@[simp] theorem raise_regs_dataLen (e : ErrorKind) (x a : Word) (s : State) :
    (raise e x a s).regs.dataLen = s.regs.dataLen := rfl
@[simp] theorem raise_regs_rxMsgid (e : ErrorKind) (x a : Word) (s : State) :
    (raise e x a s).regs.rxMsgid = s.regs.rxMsgid := rfl
@[simp] theorem raise_regs_rxResult (e : ErrorKind) (x a : Word) (s : State) :
    (raise e x a s).regs.rxResult = s.regs.rxResult := rfl
@[simp] theorem raise_regs_rxDeclLen (e : ErrorKind) (x a : Word) (s : State) :
    (raise e x a s).regs.rxDeclLen = s.regs.rxDeclLen := rfl
@[simp] theorem raise_regs_rxCksum (e : ErrorKind) (x a : Word) (s : State) :
    (raise e x a s).regs.rxCksum = s.regs.rxCksum := rfl
@[simp] theorem raise_regs_rxCksumCalc (e : ErrorKind) (x a : Word) (s : State) :
    (raise e x a s).regs.rxCksumCalc = s.regs.rxCksumCalc := rfl
@[simp] theorem raise_regs_errExp (e : ErrorKind) (x a : Word) (s : State) : (raise e x a s).regs.errExp = x := rfl
@[simp] theorem raise_regs_errAct (e : ErrorKind) (x a : Word) (s : State) : (raise e x a s).regs.errAct = a := rfl
@[simp] theorem raise_regs_status (e : ErrorKind) (x a : Word) (s : State) :
    (raise e x a s).regs.status = statusRaise e (lastOpOf s) s.regs.status := rfl

/-! ## STATUS after a completion -/

@[simp] theorem statusComplete_busy (o : Byte) (st : Status) : (statusComplete o st).busy = false := rfl
@[simp] theorem statusComplete_done (o : Byte) (st : Status) : (statusComplete o st).done = true := rfl
@[simp] theorem statusComplete_err (o : Byte) (st : Status) : (statusComplete o st).err = st.err := rfl
@[simp] theorem statusComplete_errCode (o : Byte) (st : Status) : (statusComplete o st).errCode = 0 := rfl
@[simp] theorem statusComplete_lastOp (o : Byte) (st : Status) : (statusComplete o st).lastOp = o := rfl
@[simp] theorem statusRaise_busy (e : ErrorKind) (o : Byte) (st : Status) : (statusRaise e o st).busy = false := rfl
@[simp] theorem statusRaise_done (e : ErrorKind) (o : Byte) (st : Status) : (statusRaise e o st).done = true := rfl
@[simp] theorem statusRaise_err (e : ErrorKind) (o : Byte) (st : Status) : (statusRaise e o st).err = true := rfl
@[simp] theorem statusRaise_errCode (e : ErrorKind) (o : Byte) (st : Status) :
    (statusRaise e o st).errCode = errorCode e := rfl
@[simp] theorem statusRaise_lastOp (e : ErrorKind) (o : Byte) (st : Status) : (statusRaise e o st).lastOp = o := rfl

/-! ## memWrite, issue, hardReset, takeTurn, reply, extractData, placeCommand -/

@[simp] theorem memWrite_cfg (a : Nat) (bs : List Byte) (s : State) : (memWrite s a bs).cfg = s.cfg := rfl
@[simp] theorem memWrite_regs (a : Nat) (bs : List Byte) (s : State) : (memWrite s a bs).regs = s.regs := rfl
@[simp] theorem memWrite_pending (a : Nat) (bs : List Byte) (s : State) : (memWrite s a bs).pending = s.pending := rfl
@[simp] theorem memWrite_bufEpoch (a : Nat) (bs : List Byte) (s : State) :
    (memWrite s a bs).bufEpoch = s.bufEpoch := rfl
@[simp] theorem memWrite_host (a : Nat) (bs : List Byte) (s : State) : (memWrite s a bs).host = s.host := rfl
@[simp] theorem memWrite_replies (a : Nat) (bs : List Byte) (s : State) : (memWrite s a bs).replies = s.replies := rfl
@[simp] theorem memWrite_sched (a : Nat) (bs : List Byte) (s : State) : (memWrite s a bs).sched = s.sched := rfl
@[simp] theorem memWrite_buf (a : Nat) (bs : List Byte) (s : State) :
    (memWrite s a bs).buf = Memory.putList s.buf a bs := rfl
@[simp] theorem issue_cfg (v : Word) (s : State) : (issue v s).cfg = s.cfg := rfl
@[simp] theorem issue_buf (v : Word) (s : State) : (issue v s).buf = s.buf := rfl
@[simp] theorem issue_bufEpoch (v : Word) (s : State) : (issue v s).bufEpoch = s.bufEpoch := rfl
@[simp] theorem issue_host (v : Word) (s : State) : (issue v s).host = s.host := rfl
@[simp] theorem issue_replies (v : Word) (s : State) : (issue v s).replies = s.replies := rfl
@[simp] theorem issue_sched (v : Word) (s : State) : (issue v s).sched = s.sched := rfl
@[simp] theorem issue_regs_ctrl (v : Word) (s : State) : (issue v s).regs.ctrl = s.regs.ctrl := rfl
@[simp] theorem issue_regs_errExp (v : Word) (s : State) : (issue v s).regs.errExp = s.regs.errExp := rfl
@[simp] theorem issue_regs_errAct (v : Word) (s : State) : (issue v s).regs.errAct = s.regs.errAct := rfl
@[simp] theorem issue_regs_arg0 (v : Word) (s : State) : (issue v s).regs.arg0 = s.regs.arg0 := rfl
@[simp] theorem issue_regs_arg1 (v : Word) (s : State) : (issue v s).regs.arg1 = s.regs.arg1 := rfl
@[simp] theorem issue_regs_res0 (v : Word) (s : State) : (issue v s).regs.res0 = s.regs.res0 := rfl
@[simp] theorem issue_regs_res1 (v : Word) (s : State) : (issue v s).regs.res1 = s.regs.res1 := rfl
@[simp] theorem issue_regs_crcCfg (v : Word) (s : State) : (issue v s).regs.crcCfg = s.regs.crcCfg := rfl
@[simp] theorem issue_regs_crcAcc (v : Word) (s : State) : (issue v s).regs.crcAcc = s.regs.crcAcc := rfl
@[simp] theorem issue_regs_xorAcc (v : Word) (s : State) : (issue v s).regs.xorAcc = s.regs.xorAcc := rfl
@[simp] theorem issue_regs_stepSize (v : Word) (s : State) : (issue v s).regs.stepSize = s.regs.stepSize := rfl
@[simp] theorem issue_regs_frameMax (v : Word) (s : State) : (issue v s).regs.frameMax = s.regs.frameMax := rfl
@[simp] theorem issue_regs_okCode (v : Word) (s : State) : (issue v s).regs.okCode = s.regs.okCode := rfl
@[simp] theorem issue_regs_descCfg (v : Word) (s : State) : (issue v s).regs.descCfg = s.regs.descCfg := rfl
@[simp] theorem issue_regs_descMsgid (v : Word) (s : State) : (issue v s).regs.descMsgid = s.regs.descMsgid := rfl
@[simp] theorem issue_regs_descCmd (v : Word) (s : State) : (issue v s).regs.descCmd = s.regs.descCmd := rfl
@[simp] theorem issue_regs_descTbl (v : Word) (s : State) : (issue v s).regs.descTbl = s.regs.descTbl := rfl
@[simp] theorem issue_regs_descResplen (v : Word) (s : State) : (issue v s).regs.descResplen = s.regs.descResplen := rfl
@[simp] theorem issue_regs_descRec (v : Word) (s : State) : (issue v s).regs.descRec = s.regs.descRec := rfl
@[simp] theorem issue_regs_cmdwFlags (v : Word) (s : State) : (issue v s).regs.cmdwFlags = s.regs.cmdwFlags := rfl
@[simp] theorem issue_regs_resultOff (v : Word) (s : State) : (issue v s).regs.resultOff = s.regs.resultOff := rfl
@[simp] theorem issue_regs_payOff (v : Word) (s : State) : (issue v s).regs.payOff = s.regs.payOff := rfl
@[simp] theorem issue_regs_payLen (v : Word) (s : State) : (issue v s).regs.payLen = s.regs.payLen := rfl
@[simp] theorem issue_regs_chOff (v : Word) (s : State) : (issue v s).regs.chOff = s.regs.chOff := rfl
@[simp] theorem issue_regs_chCnt (v : Word) (s : State) : (issue v s).regs.chCnt = s.regs.chCnt := rfl
@[simp] theorem issue_regs_portOff (v : Word) (s : State) : (issue v s).regs.portOff = s.regs.portOff := rfl
@[simp] theorem issue_regs_portCnt (v : Word) (s : State) : (issue v s).regs.portCnt = s.regs.portCnt := rfl
@[simp] theorem issue_regs_attOff (v : Word) (s : State) : (issue v s).regs.attOff = s.regs.attOff := rfl
@[simp] theorem issue_regs_attCnt (v : Word) (s : State) : (issue v s).regs.attCnt = s.regs.attCnt := rfl
@[simp] theorem issue_regs_txOff (v : Word) (s : State) : (issue v s).regs.txOff = s.regs.txOff := rfl
@[simp] theorem issue_regs_txLen (v : Word) (s : State) : (issue v s).regs.txLen = s.regs.txLen := rfl
@[simp] theorem issue_regs_rxOff (v : Word) (s : State) : (issue v s).regs.rxOff = s.regs.rxOff := rfl
@[simp] theorem issue_regs_rxLen (v : Word) (s : State) : (issue v s).regs.rxLen = s.regs.rxLen := rfl
@[simp] theorem issue_regs_dataOff (v : Word) (s : State) : (issue v s).regs.dataOff = s.regs.dataOff := rfl
@[simp] theorem issue_regs_dataLen (v : Word) (s : State) : (issue v s).regs.dataLen = s.regs.dataLen := rfl
@[simp] theorem issue_regs_rxMsgid (v : Word) (s : State) : (issue v s).regs.rxMsgid = s.regs.rxMsgid := rfl
@[simp] theorem issue_regs_rxResult (v : Word) (s : State) : (issue v s).regs.rxResult = s.regs.rxResult := rfl
@[simp] theorem issue_regs_rxDeclLen (v : Word) (s : State) : (issue v s).regs.rxDeclLen = s.regs.rxDeclLen := rfl
@[simp] theorem issue_regs_rxCksum (v : Word) (s : State) : (issue v s).regs.rxCksum = s.regs.rxCksum := rfl
@[simp] theorem issue_regs_rxCksumCalc (v : Word) (s : State) : (issue v s).regs.rxCksumCalc = s.regs.rxCksumCalc := rfl
@[simp] theorem issue_pending (v : Word) (s : State) : (issue v s).pending = v := rfl
@[simp] theorem issue_regs_status (v : Word) (s : State) :
    (issue v s).regs.status = { s.regs.status with busy := true } := rfl
@[simp] theorem hardReset_cfg (s : State) : (hardReset s).cfg = s.cfg := rfl
@[simp] theorem hardReset_host (s : State) : (hardReset s).host = s.host := rfl
@[simp] theorem hardReset_replies (s : State) : (hardReset s).replies = s.replies := rfl
@[simp] theorem hardReset_sched (s : State) : (hardReset s).sched = s.sched := rfl
@[simp] theorem hardReset_regs (s : State) : (hardReset s).regs = regsReset := rfl
@[simp] theorem hardReset_pending (s : State) : (hardReset s).pending = 0 := rfl
@[simp] theorem hardReset_buf (s : State) : (hardReset s).buf = [] := rfl
@[simp] theorem hardReset_bufEpoch (s : State) : (hardReset s).bufEpoch = s.bufEpoch + 1 := rfl
@[simp] theorem takeTurn_cfg (s : State) : (takeTurn s).cfg = s.cfg := rfl
@[simp] theorem takeTurn_regs (s : State) : (takeTurn s).regs = s.regs := rfl
@[simp] theorem takeTurn_pending (s : State) : (takeTurn s).pending = s.pending := rfl
@[simp] theorem takeTurn_buf (s : State) : (takeTurn s).buf = s.buf := rfl
@[simp] theorem takeTurn_bufEpoch (s : State) : (takeTurn s).bufEpoch = s.bufEpoch := rfl
@[simp] theorem takeTurn_host (s : State) : (takeTurn s).host = s.host := rfl
@[simp] theorem takeTurn_replies (s : State) : (takeTurn s).replies = s.replies := rfl
@[simp] theorem takeTurn_sched (s : State) : (takeTurn s).sched = s.sched.tail := rfl
@[simp] theorem reply_cfg (r : Reply) (s : State) : (reply r s).cfg = s.cfg := rfl
@[simp] theorem reply_regs (r : Reply) (s : State) : (reply r s).regs = s.regs := rfl
@[simp] theorem reply_pending (r : Reply) (s : State) : (reply r s).pending = s.pending := rfl
@[simp] theorem reply_buf (r : Reply) (s : State) : (reply r s).buf = s.buf := rfl
@[simp] theorem reply_bufEpoch (r : Reply) (s : State) : (reply r s).bufEpoch = s.bufEpoch := rfl
@[simp] theorem reply_host (r : Reply) (s : State) : (reply r s).host = s.host := rfl
@[simp] theorem reply_sched (r : Reply) (s : State) : (reply r s).sched = s.sched := rfl
@[simp] theorem reply_replies (r : Reply) (s : State) : (reply r s).replies = r :: s.replies := rfl
@[simp] theorem extractData_cfg (s : State) : (extractData s).cfg = s.cfg := rfl
@[simp] theorem extractData_pending (s : State) : (extractData s).pending = s.pending := rfl
@[simp] theorem extractData_buf (s : State) : (extractData s).buf = s.buf := rfl
@[simp] theorem extractData_bufEpoch (s : State) : (extractData s).bufEpoch = s.bufEpoch := rfl
@[simp] theorem extractData_host (s : State) : (extractData s).host = s.host := rfl
@[simp] theorem extractData_replies (s : State) : (extractData s).replies = s.replies := rfl
@[simp] theorem extractData_sched (s : State) : (extractData s).sched = s.sched := rfl
@[simp] theorem extractData_regs_ctrl (s : State) : (extractData s).regs.ctrl = s.regs.ctrl := rfl
@[simp] theorem extractData_regs_status (s : State) : (extractData s).regs.status = s.regs.status := rfl
@[simp] theorem extractData_regs_errExp (s : State) : (extractData s).regs.errExp = s.regs.errExp := rfl
@[simp] theorem extractData_regs_errAct (s : State) : (extractData s).regs.errAct = s.regs.errAct := rfl
@[simp] theorem extractData_regs_arg0 (s : State) : (extractData s).regs.arg0 = s.regs.arg0 := rfl
@[simp] theorem extractData_regs_arg1 (s : State) : (extractData s).regs.arg1 = s.regs.arg1 := rfl
@[simp] theorem extractData_regs_res0 (s : State) : (extractData s).regs.res0 = s.regs.res0 := rfl
@[simp] theorem extractData_regs_res1 (s : State) : (extractData s).regs.res1 = s.regs.res1 := rfl
@[simp] theorem extractData_regs_crcCfg (s : State) : (extractData s).regs.crcCfg = s.regs.crcCfg := rfl
@[simp] theorem extractData_regs_crcAcc (s : State) : (extractData s).regs.crcAcc = s.regs.crcAcc := rfl
@[simp] theorem extractData_regs_xorAcc (s : State) : (extractData s).regs.xorAcc = s.regs.xorAcc := rfl
@[simp] theorem extractData_regs_stepSize (s : State) : (extractData s).regs.stepSize = s.regs.stepSize := rfl
@[simp] theorem extractData_regs_frameMax (s : State) : (extractData s).regs.frameMax = s.regs.frameMax := rfl
@[simp] theorem extractData_regs_okCode (s : State) : (extractData s).regs.okCode = s.regs.okCode := rfl
@[simp] theorem extractData_regs_descCfg (s : State) : (extractData s).regs.descCfg = s.regs.descCfg := rfl
@[simp] theorem extractData_regs_descMsgid (s : State) : (extractData s).regs.descMsgid = s.regs.descMsgid := rfl
@[simp] theorem extractData_regs_descCmd (s : State) : (extractData s).regs.descCmd = s.regs.descCmd := rfl
@[simp] theorem extractData_regs_descTbl (s : State) : (extractData s).regs.descTbl = s.regs.descTbl := rfl
@[simp] theorem extractData_regs_descResplen (s : State) : (extractData s).regs.descResplen = s.regs.descResplen := rfl
@[simp] theorem extractData_regs_descRec (s : State) : (extractData s).regs.descRec = s.regs.descRec := rfl
@[simp] theorem extractData_regs_cmdwFlags (s : State) : (extractData s).regs.cmdwFlags = s.regs.cmdwFlags := rfl
@[simp] theorem extractData_regs_resultOff (s : State) : (extractData s).regs.resultOff = s.regs.resultOff := rfl
@[simp] theorem extractData_regs_payOff (s : State) : (extractData s).regs.payOff = s.regs.payOff := rfl
@[simp] theorem extractData_regs_payLen (s : State) : (extractData s).regs.payLen = s.regs.payLen := rfl
@[simp] theorem extractData_regs_chOff (s : State) : (extractData s).regs.chOff = s.regs.chOff := rfl
@[simp] theorem extractData_regs_chCnt (s : State) : (extractData s).regs.chCnt = s.regs.chCnt := rfl
@[simp] theorem extractData_regs_portOff (s : State) : (extractData s).regs.portOff = s.regs.portOff := rfl
@[simp] theorem extractData_regs_portCnt (s : State) : (extractData s).regs.portCnt = s.regs.portCnt := rfl
@[simp] theorem extractData_regs_attOff (s : State) : (extractData s).regs.attOff = s.regs.attOff := rfl
@[simp] theorem extractData_regs_attCnt (s : State) : (extractData s).regs.attCnt = s.regs.attCnt := rfl
@[simp] theorem extractData_regs_txOff (s : State) : (extractData s).regs.txOff = s.regs.txOff := rfl
@[simp] theorem extractData_regs_txLen (s : State) : (extractData s).regs.txLen = s.regs.txLen := rfl
@[simp] theorem extractData_regs_rxOff (s : State) : (extractData s).regs.rxOff = s.regs.rxOff := rfl
@[simp] theorem extractData_regs_rxLen (s : State) : (extractData s).regs.rxLen = s.regs.rxLen := rfl
@[simp] theorem placeCommand_cfg (w : Word) (s : State) : (placeCommand w s).cfg = s.cfg := rfl
@[simp] theorem placeCommand_buf (w : Word) (s : State) : (placeCommand w s).buf = s.buf := rfl
@[simp] theorem placeCommand_bufEpoch (w : Word) (s : State) : (placeCommand w s).bufEpoch = s.bufEpoch := rfl
@[simp] theorem placeCommand_host (w : Word) (s : State) : (placeCommand w s).host = s.host := rfl
@[simp] theorem placeCommand_replies (w : Word) (s : State) : (placeCommand w s).replies = s.replies := rfl
@[simp] theorem placeCommand_pending (w : Word) (s : State) : (placeCommand w s).pending = w := rfl
@[simp] theorem placeCommand_sched (w : Word) (s : State) : (placeCommand w s).sched = .engine :: s.sched := rfl

/-! ## The statements' states (Safety.lean) -/

@[simp] theorem failState_cfg (c : BitVec 4) (x a : Word) (s : State) : (failState s c x a).cfg = s.cfg := rfl
@[simp] theorem failState_pending (c : BitVec 4) (x a : Word) (s : State) :
    (failState s c x a).pending = s.pending := rfl
@[simp] theorem failState_buf (c : BitVec 4) (x a : Word) (s : State) : (failState s c x a).buf = s.buf := rfl
@[simp] theorem failState_bufEpoch (c : BitVec 4) (x a : Word) (s : State) :
    (failState s c x a).bufEpoch = s.bufEpoch := rfl
@[simp] theorem failState_host (c : BitVec 4) (x a : Word) (s : State) : (failState s c x a).host = s.host := rfl
@[simp] theorem failState_replies (c : BitVec 4) (x a : Word) (s : State) :
    (failState s c x a).replies = s.replies := rfl
@[simp] theorem failState_sched (c : BitVec 4) (x a : Word) (s : State) : (failState s c x a).sched = s.sched := rfl
@[simp] theorem okRes0_cfg (r : Word) (s : State) : (okRes0 s r).cfg = s.cfg := rfl
@[simp] theorem okRes0_pending (r : Word) (s : State) : (okRes0 s r).pending = s.pending := rfl
@[simp] theorem okRes0_buf (r : Word) (s : State) : (okRes0 s r).buf = s.buf := rfl
@[simp] theorem okRes0_bufEpoch (r : Word) (s : State) : (okRes0 s r).bufEpoch = s.bufEpoch := rfl
@[simp] theorem okRes0_host (r : Word) (s : State) : (okRes0 s r).host = s.host := rfl
@[simp] theorem okRes0_replies (r : Word) (s : State) : (okRes0 s r).replies = s.replies := rfl
@[simp] theorem okRes0_sched (r : Word) (s : State) : (okRes0 s r).sched = s.sched := rfl
@[simp] theorem okRes_cfg (r q : Word) (s : State) : (okRes s r q).cfg = s.cfg := rfl
@[simp] theorem okRes_pending (r q : Word) (s : State) : (okRes s r q).pending = s.pending := rfl
@[simp] theorem okRes_buf (r q : Word) (s : State) : (okRes s r q).buf = s.buf := rfl
@[simp] theorem okRes_bufEpoch (r q : Word) (s : State) : (okRes s r q).bufEpoch = s.bufEpoch := rfl
@[simp] theorem okRes_host (r q : Word) (s : State) : (okRes s r q).host = s.host := rfl
@[simp] theorem okRes_replies (r q : Word) (s : State) : (okRes s r q).replies = s.replies := rfl
@[simp] theorem okRes_sched (r q : Word) (s : State) : (okRes s r q).sched = s.sched := rfl

end Sys2Proof.Machine
end

