-- ==== Sys2Proof/Laws/Memory.lean ====
section
/-! SUPPORT. BUF's laws: a read after a write, the canonical form kept by every write, what a command's reads and writes
see. -/

namespace Sys2Proof.Machine

/-! ## One byte -/

@[simp] theorem Memory.find_nil (a : Nat) : Memory.find [] a = none := rfl

/-- A read after a write, at the place written and anywhere else. -/
theorem Memory.find_put (m : Memory) (a c : Nat) (b : Byte) :
    Memory.find (Memory.put m a b) c = if a = c then some b else Memory.find m c := by
  induction m with
  | nil => simp [Memory.put, Memory.find]
  | cons d m ih =>
    simp only [Memory.put]
    split
    · simp [Memory.find]
    · split
      · next h => subst h; by_cases hc : d.1 = c <;> simp [Memory.find, hc]
      · next h₁ h₂ =>
        by_cases hc : d.1 = c
        · have : a ≠ c := by omega
          simp [Memory.find, hc, this]
        · simp [Memory.find, hc, ih]

/-- A read after the write of a list: the list's byte inside the span, the old one outside it. -/
theorem Memory.find_putList (bs : List Byte) (m : Memory) (a c : Nat) :
    Memory.find (Memory.putList m a bs) c =
      if a ≤ c ∧ c < a + bs.length then bs[c - a]? else Memory.find m c := by
  induction bs generalizing m a with
  | nil => simp [Memory.putList]
  | cons b bs ih =>
    rw [Memory.putList, ih, Memory.find_put]
    by_cases h₁ : a = c
    · subst h₁; simp
    · by_cases h₂ : a + 1 ≤ c ∧ c < a + 1 + bs.length
      · have h₃ : a ≤ c ∧ c < a + (b :: bs).length := by simp only [List.length_cons]; omega
        have h₄ : c - a = (c - (a + 1)) + 1 := by omega
        rw [if_pos h₂, if_pos h₃, h₄, List.getElem?_cons_succ]
      · have h₃ : ¬(a ≤ c ∧ c < a + (b :: bs).length) := by simp only [List.length_cons]; omega
        rw [if_neg h₂, if_neg h₃, if_neg h₁]

/-! ## The canonical form -/

/-- Every offset of a memory is above a bound. -/
def Memory.above (k : Nat) (m : Memory) : Prop := ∀ c ∈ m, k < c.1

theorem Memory.rising_cons (c : Host.Cell) (m : Memory) :
    Memory.rising (c :: m) = true ↔ Memory.above c.1 m ∧ Memory.rising m = true := by
  induction m generalizing c with
  | nil => simp [Memory.rising, Memory.above]
  | cons d m ih =>
    simp only [Memory.rising, Bool.and_eq_true, decide_eq_true_eq]
    constructor
    · rintro ⟨h, hr⟩
      refine ⟨?_, hr⟩
      intro e he
      rcases List.mem_cons.1 he with rfl | he
      · exact h
      · exact Nat.lt_trans h (((ih d).1 hr).1 e he)
    · rintro ⟨h, hr⟩
      exact ⟨h d List.mem_cons_self, hr⟩

theorem Memory.mem_put (m : Memory) (a : Nat) (b : Byte) (c : Host.Cell) (h : c ∈ Memory.put m a b) :
    c = (a, b) ∨ c ∈ m := by
  induction m with
  | nil => simpa [Memory.put] using h
  | cons d m ih =>
    simp only [Memory.put] at h
    split at h
    · simpa using h
    · split at h
      · rcases List.mem_cons.1 h with h | h
        · exact .inl h
        · exact .inr (List.mem_cons_of_mem _ h)
      · rcases List.mem_cons.1 h with h | h
        · exact .inr (h ▸ List.mem_cons_self)
        · exact (ih h).imp id (List.mem_cons_of_mem _)

theorem Memory.rising_put (m : Memory) (a : Nat) (b : Byte) (h : Memory.rising m = true) :
    Memory.rising (Memory.put m a b) = true := by
  induction m with
  | nil => rfl
  | cons d m ih =>
    obtain ⟨habove, hm⟩ := (Memory.rising_cons d m).1 h
    simp only [Memory.put]
    split
    · next hlt =>
      refine (Memory.rising_cons _ _).2 ⟨?_, h⟩
      intro e he
      rcases List.mem_cons.1 he with rfl | he
      · exact hlt
      · exact Nat.lt_trans hlt (habove e he)
    · split
      · next heq => subst heq; exact (Memory.rising_cons _ _).2 ⟨habove, hm⟩
      · next h₁ h₂ =>
        refine (Memory.rising_cons _ _).2 ⟨?_, ih hm⟩
        intro e he
        rcases Memory.mem_put m a b e he with rfl | he
        · show d.1 < a; omega
        · exact habove e he

/-- A write below BUF_SIZE keeps the canonical form. -/
theorem Memory.wf_put (size : Nat) (m : Memory) (a : Nat) (b : Byte) (ha : a < size)
    (h : Memory.wf size m = true) : Memory.wf size (Memory.put m a b) = true := by
  simp only [Memory.wf, Bool.and_eq_true, List.all_eq_true, decide_eq_true_eq] at h ⊢
  refine ⟨Memory.rising_put m a b h.1, fun c hc => ?_⟩
  rcases Memory.mem_put m a b c hc with rfl | hc
  · exact ha
  · exact h.2 c hc

/-- A write of a span inside BUF keeps the canonical form. -/
theorem Memory.wf_putList (size : Nat) (bs : List Byte) (m : Memory) (a : Nat) (ha : a + bs.length ≤ size)
    (h : Memory.wf size m = true) : Memory.wf size (Memory.putList m a bs) = true := by
  induction bs generalizing m a with
  | nil => exact h
  | cons b bs ih =>
    simp only [List.length_cons] at ha
    exact ih _ _ (by omega) (Memory.wf_put size m a b (by omega) h)

/-- The memory after reset has the canonical form. -/
theorem Memory.wf_reset : Memory.wf State.reset.cfg.bufSize State.reset.buf = true := rfl

/-! ## What a command sees -/

/-- `BUF[c]` after `MemWrite(a, n, bs)`. -/
theorem bufByte_memWrite (s : State) (a c : Nat) (bs : List Byte) :
    bufByte (memWrite s a bs) c = if h : a ≤ c ∧ c < a + bs.length then bs[c - a]'(by omega) else bufByte s c := by
  unfold bufByte
  simp only [memWrite_buf, memWrite_bufEpoch, Memory.find_putList]
  by_cases h : a ≤ c ∧ c < a + bs.length
  · rw [if_pos h, dif_pos h, List.getElem?_eq_getElem (by omega)]
  · rw [if_neg h, dif_neg h]

/-- Outside the span written, `MemWrite` leaves BUF as it was. -/
theorem bufByte_memWrite_outside (s : State) (a c : Nat) (bs : List Byte) (h : c < a ∨ a + bs.length ≤ c) :
    bufByte (memWrite s a bs) c = bufByte s c := by
  rw [bufByte_memWrite, dif_neg (by omega)]

/-- BUF's bytes depend on the written bytes and the draw alone. -/
theorem bufByte_congr {s t : State} (hb : s.buf = t.buf) (he : s.bufEpoch = t.bufEpoch) (a : Nat) :
    bufByte s a = bufByte t a := by
  unfold bufByte; rw [hb, he]

@[simp] theorem memRead_length (s : State) (a n : Nat) : (memRead s a n).length = n := by simp [memRead]

theorem memRead_getElem (s : State) (a n i : Nat) (h : i < (memRead s a n).length) :
    (memRead s a n)[i] = bufByte s (a + i) := by
  simp [memRead]

/-- A span read is its first part and then the rest. -/
theorem memRead_append (s : State) (a n k : Nat) :
    memRead s a (n + k) = memRead s a n ++ memRead s (a + n) k := by
  simp [memRead, List.range_add, Nat.add_assoc]

/-- Two states with the same bytes in a span read the same list. -/
theorem memRead_congr {s t : State} (a n : Nat) (h : ∀ i, i < n → bufByte s (a + i) = bufByte t (a + i)) :
    memRead s a n = memRead t a n := by
  unfold memRead
  exact List.map_congr_left fun i hi => h i (List.mem_range.1 hi)

/-- What was just written is what is read. -/
theorem memRead_memWrite (s : State) (a : Nat) (bs : List Byte) :
    memRead (memWrite s a bs) a bs.length = bs := by
  refine List.ext_getElem (by simp) fun i h₁ h₂ => ?_
  rw [memRead_getElem, bufByte_memWrite, dif_pos (by omega)]
  congr 1; omega

end Sys2Proof.Machine
end

