-- ==== Sys2Proof/Laws/Ops.lean ====
section
/-! SUPPORT. For each shared operation, once, everything it can do. -/

namespace Sys2Proof.Machine

/-! ## Checks and completions -/

/-- A span check passes on to the command, or raises OutOfRange (20_memory.md R66). -/
theorem checkSpan_cases (s : State) (off len : Nat) (go : Result) :
    (off + len ≤ s.cfg.bufSize ∧ checkSpan s off len go = go) ∨
      (s.cfg.bufSize < off + len ∧
        checkSpan s off len go = .next (raise .outOfRange (u32 s.cfg.bufSize) (u32 (off + len)) s)) := by
  by_cases h : off + len ≤ s.cfg.bufSize
  · exact .inl ⟨h, by simp [checkSpan, spanOk, h]⟩
  · exact .inr ⟨by omega, by simp [checkSpan, spanOk, h, raised]⟩

theorem checkSpan_pass (s : State) (off len : Nat) (go : Result) (h : off + len ≤ s.cfg.bufSize) :
    checkSpan s off len go = go := by simp [checkSpan, spanOk, h]

theorem checkSpan_fail (s : State) (off len : Nat) (go : Result) (h : s.cfg.bufSize < off + len) :
    checkSpan s off len go = .next (raise .outOfRange (u32 s.cfg.bufSize) (u32 (off + len)) s) := by
  have : ¬ off + len ≤ s.cfg.bufSize := by omega
  simp [checkSpan, spanOk, this, raised]

/-- A value check passes on to the command, or raises OutOfRange (92_eei_decisions.md D39). -/
theorem checkMax_cases (s : State) (max : Nat) (v : Word) (go : Result) :
    (v.toNat ≤ max ∧ checkMax s max v go = go) ∨
      (max < v.toNat ∧ checkMax s max v go = .next (raise .outOfRange (u32 max) v s)) := by
  by_cases h : v.toNat ≤ max
  · exact .inl ⟨h, by simp [checkMax, h]⟩
  · exact .inr ⟨by omega, by simp [checkMax, h, raised]⟩

theorem checkMax_pass (s : State) (max : Nat) (v : Word) (go : Result) (h : v.toNat ≤ max) :
    checkMax s max v go = go := by simp [checkMax, h]

theorem checkMax_fail (s : State) (max : Nat) (v : Word) (go : Result) (h : max < v.toNat) :
    checkMax s max v go = .next (raise .outOfRange (u32 max) v s) := by
  have : ¬ v.toNat ≤ max := by omega
  simp [checkMax, this, raised]

/-- `completed` always answers `complete`'s state. -/
theorem completed_eq (s : State) : completed s = .next (complete s) := rfl

/-- `raised` always answers `raise`'s state. -/
theorem raised_eq (e : ErrorKind) (x a : Word) (s : State) : raised e x a s = .next (raise e x a s) := rfl

/-- A raise is the statements' failState. -/
theorem raise_eq_failState (e : ErrorKind) (x a : Word) (s : State) :
    raise e x a s = failState s (errorCode e) x a := rfl

/-- A completion with RES0 alone is the statements' okRes0. -/
theorem withRes0_eq (s : State) (r : Word) : withRes0 s r = .next (okRes0 s r) := rfl

/-- A completion with RES0 and RES1 is the statements' okRes. -/
theorem withRes_eq (s : State) (r q : Word) : withRes s r q = .next (okRes s r q) := rfl

/-- A bare completion. -/
theorem complete_eq_okRegs (s : State) : complete s = { s with regs := okRegs s } := rfl

/-! ## The frame builder's tail -/

@[simp] theorem lengthField_length (r : Regs) (n : Nat) : (lengthField r n).length = fieldWidth r := by
  unfold lengthField fieldWidth halfBE; split <;> rfl

@[simp] theorem checksumField_length (r : Regs) (k : Half) : (checksumField r k).length = fieldWidth r := by
  unfold checksumField fieldWidth halfLE; split <;> rfl

@[simp] theorem commandField_length (r : Regs) : (commandField r).length = fieldWidth r := by
  unfold commandField fieldWidth halfBE; split <;> rfl

@[simp] theorem tableField_length (r : Regs) : (tableField r).length = tableWidth r := by
  unfold tableField tableWidth; split <;> rfl

/-- The length field's value is the body's length (42_frame_builder.md R182). -/
@[simp] theorem frameBody_length (r : Regs) (payload : List Byte) :
    (frameBody r payload).length = fieldWidth r + tableWidth r + payload.length := by
  simp [frameBody, Nat.add_assoc]

/-- A frame is 7 + n or 9 + n bytes (42_frame_builder.md R181). -/
@[simp] theorem composeFrame_length (r : Regs) (payload : List Byte) :
    (composeFrame r payload).length = frameOverhead r + (fieldWidth r + tableWidth r + payload.length) := by
  have : frameOverhead r = 5 + 2 * fieldWidth r := by unfold frameOverhead fieldWidth; split <;> rfl
  simp only [composeFrame, startMarker, checkedSpan, stopMarker, List.length_append, lengthField_length,
    frameBody_length, checksumField_length, List.length_cons, List.length_nil, this]
  omega

@[simp] theorem recordPayload_length (s : State) (m : Nat) : (recordPayload s m).length = 7 * m := by
  induction m with
  | zero => rfl
  | succ m ih =>
    unfold recordPayload at ih ⊢
    rw [List.range_succ, List.flatMap_append, List.length_append, ih]
    simp [channelRecord]; omega

/-- The builder's tail raises one of its three errors, or writes the frame inside BUF (42_frame_builder.md R187 steps 3
to 5). -/
theorem emitFrame_cases (s : State) (n : Nat) (payload : List Byte) :
    (lengthMax s.regs < n ∧
      emitFrame s n payload = .next (raise .payloadTooLarge (u32 (lengthMax s.regs)) (u32 n) s)) ∨
    (n ≤ lengthMax s.regs ∧ s.regs.frameMax.toNat < frameOverhead s.regs + n ∧
      emitFrame s n payload =
        .next (raise .payloadTooLarge (s.regs.frameMax.setWidth 32) (u32 (frameOverhead s.regs + n)) s)) ∨
    (n ≤ lengthMax s.regs ∧ frameOverhead s.regs + n ≤ s.regs.frameMax.toNat ∧
      s.cfg.bufSize < s.regs.txOff.toNat + (frameOverhead s.regs + n) ∧
      emitFrame s n payload =
        .next (raise .outOfRange (u32 s.cfg.bufSize) (u32 (s.regs.txOff.toNat + (frameOverhead s.regs + n))) s)) ∨
    (n ≤ lengthMax s.regs ∧ frameOverhead s.regs + n ≤ s.regs.frameMax.toNat ∧
      s.regs.txOff.toNat + (frameOverhead s.regs + n) ≤ s.cfg.bufSize ∧
      emitFrame s n payload =
        .next (complete (memWrite { s with regs :=
          { s.regs with
            txLen := BitVec.ofNat 16 (frameOverhead s.regs + n)
            res0 := u32 n
            res1 := (checksumOf s.regs (checkedSpan s.regs payload)).setWidth 32 } }
          s.regs.txOff.toNat (composeFrame s.regs payload)))) := by
  unfold emitFrame
  by_cases h₁ : lengthMax s.regs < n
  · exact .inl ⟨h₁, by rw [if_pos h₁, raised_eq]⟩
  · by_cases h₂ : s.regs.frameMax.toNat < frameOverhead s.regs + n
    · exact .inr (.inl ⟨by omega, h₂, by rw [if_neg h₁, if_pos h₂, raised_eq]⟩)
    · by_cases h₃ : s.regs.txOff.toNat + (frameOverhead s.regs + n) ≤ s.cfg.bufSize
      · refine .inr (.inr (.inr ⟨by omega, by omega, h₃, ?_⟩))
        rw [if_neg h₁, if_neg h₂, checkSpan_pass _ _ _ _ h₃, completed_eq]
      · refine .inr (.inr (.inl ⟨by omega, by omega, by omega, ?_⟩))
        rw [if_neg h₁, if_neg h₂, checkSpan_fail _ _ _ _ (by omega)]

/-! ## The bus and the turns -/

/-- An access is performed, or it is a bus error and changes nothing (20_memory.md R62). -/
theorem hostAccess_cases (s : State) (a : HostAccess) :
    (∃ e, busTarget s.cfg.bufSize a.off.toNat a.width = .error e ∧ hostAccess s a = .fault e) ∨
    (∃ t, busTarget s.cfg.bufSize a.off.toNat a.width = .ok t ∧
      ((a.op = .read ∧ hostAccess s a = .next (reply (.data (busRead s t a.width)) s)) ∨
       ∃ v, a.op = .write v ∧ hostAccess s a = .next (reply .written (busWrite s t a.width v)))) := by
  unfold hostAccess
  cases h : busTarget s.cfg.bufSize a.off.toNat a.width with
  | error e => exact .inl ⟨e, rfl, rfl⟩
  | ok t =>
    refine .inr ⟨t, rfl, ?_⟩
    cases hop : a.op with
    | read => exact .inl ⟨rfl, rfl⟩
    | write v => exact .inr ⟨v, rfl, rfl⟩

/-- A step is the host's turn, the engine's or a hardware reset, on the state with the turn taken. -/
theorem step_cases (s : State) :
    (nextTurn s = .host ∧ step s = hostTurn (takeTurn s)) ∨
    (nextTurn s = .engine ∧ step s = engineTurn (takeTurn s)) ∨
    (nextTurn s = .reset ∧ step s = .next (hardReset (takeTurn s))) := by
  unfold step turnStep
  cases h : nextTurn s with
  | host => exact .inl ⟨rfl, rfl⟩
  | engine => exact .inr (.inl ⟨rfl, rfl⟩)
  | reset => exact .inr (.inr ⟨rfl, rfl⟩)

/-- The host's turn: nothing to do, an access held, or an access performed. -/
theorem hostTurn_cases (s : State) :
    (s.host = [] ∧ hostTurn s = .next s) ∨
    (∃ a rest, s.host = a :: rest ∧ stalls s a = true ∧ hostTurn s = .next s) ∨
    (∃ a rest, s.host = a :: rest ∧ stalls s a = false ∧ hostTurn s = hostAccess { s with host := rest } a) := by
  unfold hostTurn
  cases s.host with
  | nil => exact .inl ⟨rfl, rfl⟩
  | cons a rest =>
    by_cases h : stalls s a = true
    · exact .inr (.inl ⟨a, rest, rfl, h, by simp only [h, if_true]⟩)
    · exact .inr (.inr ⟨a, rest, rfl, by simpa using h, by simp [h]⟩)

/-- The engine's turn: idle, a command, or an illegal word. -/
theorem engineTurn_cases (s : State) :
    (s.regs.status.busy = false ∧ engineTurn s = .next s) ∨
    (∃ i, s.regs.status.busy = true ∧ decode s.pending = .ok i ∧ engineTurn s = exec i s) ∨
    (∃ e, s.regs.status.busy = true ∧ decode s.pending = .error e ∧ engineTurn s = execIllegal e s) := by
  unfold engineTurn runPending
  cases h : s.regs.status.busy with
  | false => exact .inl ⟨rfl, rfl⟩
  | true =>
    cases hd : decode s.pending with
    | ok i => exact .inr (.inl ⟨i, rfl, rfl, rfl⟩)
    | error e => exact .inr (.inr ⟨e, rfl, rfl, rfl⟩)

/-- An illegal word completes with IllegalCommand (44_control.md R242). -/
theorem execIllegal_eq (e : DecodeReject) (s : State) :
    ∃ act, execIllegal e s = .next (raise .illegalCommand 0 act s) := by
  cases e with
  | reservedBits b => exact ⟨_, rfl⟩
  | undefinedOpcode b => exact ⟨_, rfl⟩

end Sys2Proof.Machine
end

