-- ==== Sys2Proof/Laws/PerInstr.lean ====
section
/-! SUPPORT. The per-instruction family EncodingInTable: every command's word is one of 30_encoding.md R82's defined words,
its reserved bits are 0, and its opcode byte is R81's. One lemma per constructor. -/

namespace Sys2Proof.Laws

/-- The word of a command is a defined word: RSVD is 0 and OPCODE is in R82's list. -/
def EncodingInTable.Statement (i : Instr) : Prop :=
  wordDefined (encode i) = true ∧ rsvdField (encode i) = 0 ∧ opcodeField (encode i) = opcodeOf i

theorem EncodingInTable.nop : EncodingInTable.Statement .nop := by unfold EncodingInTable.Statement; decide
theorem EncodingInTable.sreset : EncodingInTable.Statement .sreset := by unfold EncodingInTable.Statement; decide
theorem EncodingInTable.xor8 : EncodingInTable.Statement .xor8 := by unfold EncodingInTable.Statement; decide
theorem EncodingInTable.crc16 : EncodingInTable.Statement .crc16 := by unfold EncodingInTable.Statement; decide
theorem EncodingInTable.accClr : EncodingInTable.Statement .accClr := by unfold EncodingInTable.Statement; decide
theorem EncodingInTable.accFeed : EncodingInTable.Statement .accFeed := by unfold EncodingInTable.Statement; decide
theorem EncodingInTable.accSpan : EncodingInTable.Statement .accSpan := by unfold EncodingInTable.Statement; decide
theorem EncodingInTable.packTbl : EncodingInTable.Statement .packTbl := by unfold EncodingInTable.Statement; decide
theorem EncodingInTable.unpackTbl : EncodingInTable.Statement .unpackTbl := by unfold EncodingInTable.Statement; decide
theorem EncodingInTable.split16 : EncodingInTable.Statement .split16 := by unfold EncodingInTable.Statement; decide
theorem EncodingInTable.join16 : EncodingInTable.Statement .join16 := by unfold EncodingInTable.Statement; decide
theorem EncodingInTable.put16le : EncodingInTable.Statement .put16le := by unfold EncodingInTable.Statement; decide
theorem EncodingInTable.get16le : EncodingInTable.Statement .get16le := by unfold EncodingInTable.Statement; decide
theorem EncodingInTable.put32le : EncodingInTable.Statement .put32le := by unfold EncodingInTable.Statement; decide
theorem EncodingInTable.get32le : EncodingInTable.Statement .get32le := by unfold EncodingInTable.Statement; decide
theorem EncodingInTable.put16be : EncodingInTable.Statement .put16be := by unfold EncodingInTable.Statement; decide
theorem EncodingInTable.get16be : EncodingInTable.Statement .get16be := by unfold EncodingInTable.Statement; decide
theorem EncodingInTable.attEnc : EncodingInTable.Statement .attEnc := by unfold EncodingInTable.Statement; decide
theorem EncodingInTable.attDec : EncodingInTable.Statement .attDec := by unfold EncodingInTable.Statement; decide
theorem EncodingInTable.scale : EncodingInTable.Statement .scale := by unfold EncodingInTable.Statement; decide
theorem EncodingInTable.unscale : EncodingInTable.Statement .unscale := by unfold EncodingInTable.Statement; decide
theorem EncodingInTable.build : EncodingInTable.Statement .build := by unfold EncodingInTable.Statement; decide
theorem EncodingInTable.buildRec : EncodingInTable.Statement .buildRec := by unfold EncodingInTable.Statement; decide
theorem EncodingInTable.parse : EncodingInTable.Statement .parse := by unfold EncodingInTable.Statement; decide

end Sys2Proof.Laws
end

