-- ==== Sys2Proof/Tests/Slice0.lean ====
section
/-! SUPPORT. Tests. Every expected value is the spec's: the opcode map (30_encoding.md R81, R82), the vectors of
95_test_vectors.md (each theorem names its rows), or the rule named. The theorems whose names begin test_witness_ show
that the hypotheses of the obligation they name can be met, clause by clause, at the ends of the ranges. -/

namespace Sys2Proof.Tests

open Sys2Proof Sys2Proof.Machine

/-! ## Helpers -/

/-- The reset state with ARG0 and ARG1. -/
def args (a0 a1 : Word) : State := { State.reset with regs := { regsReset with arg0 := a0, arg1 := a1 } }

/-- The reset state with ARG0 and STEP. -/
def steps (a0 st : Word) : State := { State.reset with regs := { regsReset with arg0 := a0, stepSize := st } }

/-- A state whose first bytes of BUF are written. -/
def filled (bs : List Byte) (s : State) : State := memWrite s 0 bs

/-- The next state an outcome holds, if it holds one. -/
def answer (r : Result) : Option State :=
  match r with
  | .next t => some t
  | .fault _ => none
  | .refused _ => none

/-- The fault an outcome holds, if it holds one. -/
def stop (r : Result) : Option Fault :=
  match r with
  | .next _ => none
  | .fault e => some e
  | .refused _ => none

/-- The state a command answers, if it answers one. -/
def run (i : Instr) (s : State) : Option State := answer (exec i { s with pending := encode i })

/-- RES0 and RES1 after a command. -/
def results (i : Instr) (s : State) : Option (Word × Word) := (run i s).map fun t => (t.regs.res0, t.regs.res1)

/-- STATUS, ERR_EXP and ERR_ACT after a command. -/
def report (i : Instr) (s : State) : Option (Word × Word × Word) :=
  (run i s).map fun t => (statusWord t.regs.status, t.regs.errExp, t.regs.errAct)

/-- n bytes of BUF after a command. -/
def bytesAt (a n : Nat) (i : Instr) (s : State) : Option (List Byte) := (run i s).map fun t => memRead t a n

/-- "123456789" (95_test_vectors.md 2.1). -/
def digits : List Byte := [0x31, 0x32, 0x33, 0x34, 0x35, 0x36, 0x37, 0x38, 0x39]

/-- The reset state about to let the engine run a command word. -/
def pendingWord (w : Word) : State :=
  { State.reset with pending := w, regs := { regsReset with status := { statusReset with busy := true } } }

/-- The reset state about to make one host access. -/
def oneAccess (a : HostAccess) : State := { State.reset with host := [a] }

/-! ## Well-formedness: each check refuses an ill-formed term -/

/-- 00_scope.md R10: BUF_SIZE is a multiple of 4 from 16 to 65536. -/
theorem test_config_wf : Config.hce.wf = true ∧ (Config.mk 16 0).wf = true ∧ (Config.mk 65536 0).wf = true ∧
    (Config.mk 12 0).wf = false ∧ (Config.mk 4098 0).wf = false ∧ (Config.mk 65540 0).wf = false := by decide

/-- 30_encoding.md R82: the ends of the opcode ranges, and words with a reserved bit. -/
theorem test_wordDefined : wordDefined 0x01 = true ∧ wordDefined 0x02 = false ∧ wordDefined 0x0F = false ∧
    wordDefined 0x14 = true ∧ wordDefined 0x15 = false ∧ wordDefined 0x2D = true ∧ wordDefined 0x2E = false ∧
    wordDefined 0x32 = false ∧ wordDefined 0x38 = true ∧ wordDefined 0x100 = false ∧
    wordDefined 0x80000038 = false := by decide

/-- The canonical form refuses an unsorted list, a repeated offset and an offset past BUF. -/
theorem test_memory_wf : Memory.wf 16 [(3, 1), (15, 0)] = true ∧ Memory.wf 16 [(4, 1), (3, 1)] = false ∧
    Memory.wf 16 [(3, 1), (3, 1)] = false ∧ Memory.wf 16 [(16, 1)] = false := by decide

/-! ## Decoding: words written out from the opcode map (30_encoding.md R80, R81) -/

theorem test_decode_control : decode 0b00000000000000000000000000000000 = .ok .nop ∧
    decode 0b00000000000000000000000000000001 = .ok .sreset := by decide

theorem test_decode_checksum : decode 0b00000000000000000000000000010000 = .ok .xor8 ∧
    decode 0b00000000000000000000000000010001 = .ok .crc16 ∧
    decode 0b00000000000000000000000000010010 = .ok .accClr ∧
    decode 0b00000000000000000000000000010011 = .ok .accFeed ∧
    decode 0b00000000000000000000000000010100 = .ok .accSpan := by decide

theorem test_decode_codec : decode 0b00000000000000000000000000100000 = .ok .packTbl ∧
    decode 0b00000000000000000000000000100001 = .ok .unpackTbl ∧
    decode 0b00000000000000000000000000100010 = .ok .split16 ∧
    decode 0b00000000000000000000000000100011 = .ok .join16 ∧
    decode 0b00000000000000000000000000100100 = .ok .put16le ∧
    decode 0b00000000000000000000000000100101 = .ok .get16le ∧
    decode 0b00000000000000000000000000100110 = .ok .put32le ∧
    decode 0b00000000000000000000000000100111 = .ok .get32le ∧
    decode 0b00000000000000000000000000101000 = .ok .put16be ∧
    decode 0b00000000000000000000000000101001 = .ok .get16be ∧
    decode 0b00000000000000000000000000101010 = .ok .attEnc ∧
    decode 0b00000000000000000000000000101011 = .ok .attDec ∧
    decode 0b00000000000000000000000000101100 = .ok .scale ∧
    decode 0b00000000000000000000000000101101 = .ok .unscale := by decide

theorem test_decode_frame : decode 0b00000000000000000000000000110000 = .ok .build ∧
    decode 0b00000000000000000000000000110001 = .ok .buildRec ∧
    decode 0b00000000000000000000000000111000 = .ok .parse := by decide

/-- 30_encoding.md R83: the reserved bits are looked at first. -/
theorem test_decode_rejects : decode 0x00000002 = .error (.undefinedOpcode 0x02) ∧
    decode 0x00000100 = .error (.reservedBits 1) ∧ decode 0x000001FF = .error (.reservedBits 1) := by decide

theorem test_decodeTableWord : decodeTableWord 32 0x2C = some .scale ∧ decodeTableWord 32 0x2E = none ∧
    decodeTableWord 8 0x11 = some .crc16 := by decide

/-! ## Steps -/

/-- Vectors X3, X5: the very next step runs the placed word. -/
theorem test_step_illegal :
    answer (step (State.reset.withFetchWord 32 0x2)) = some { State.reset with
      pending := 2
      regs := { regsReset with errAct := 2, status := ⟨false, true, true, 10, 2⟩ } } ∧
    answer (step (State.reset.withFetchWord 32 0x100)) = some { State.reset with
      pending := 0x100
      regs := { regsReset with errAct := 1, status := ⟨false, true, true, 10, 0⟩ } } := by decide

/-- Vectors X3, X4, X6: STATUS 0x00ll0A06. -/
theorem test_status_of_illegal_words : statusWord ⟨false, true, true, 10, 2⟩ = 0x00020A06 ∧
    statusWord ⟨false, true, true, 10, 0xFF⟩ = 0x00FF0A06 ∧
    statusWord ⟨false, true, true, 10, 0x30⟩ = 0x00300A06 := by decide

/-- A CMD write is performed in the host's turn and the engine's step follows (10_state.md R25, 60_exceptions.md R251). -/
theorem test_cmd_write_issues :
    answer (step (oneAccess ⟨0x00C, .word, .write 0x38⟩)) = some { pendingWord 0x38 with replies := [.written] } := by
  decide

/-- 20_memory.md R62, R63: the bus errors. -/
theorem test_bus_errors : stop (step (oneAccess ⟨0x00C, .half, .write 0⟩)) = some .registerWidth ∧
    stop (step (oneAccess ⟨0x006, .word, .read⟩)) = some .misaligned ∧
    stop (step (oneAccess ⟨0x1001, .half, .read⟩)) = some .misaligned ∧
    stop (step (oneAccess ⟨0x2000, .byte, .read⟩)) = some .unmapped ∧
    stop (hostAccess { State.reset with cfg := ⟨18, 0⟩ } ⟨0x1010, .word, .read⟩) = some .pastBufEnd := by decide

/-! ## Control commands -/

/-- Vectors X1, X7. -/
theorem test_nop : report .nop State.reset = some (0x00000002, 0, 0) ∧
    report .nop (failState State.reset 10 0 2) = some (0x00000006, 0, 0) := by decide

/-- Vector X2. -/
theorem test_sreset : (run .sreset { State.reset with regs := { regsReset with crcCfg := 0, ctrl := 1 } }).map
    (fun t => (t.regs.crcCfg, statusWord t.regs.status, t.regs.ctrl)) = some (0x0000FFFF, 0x00010002, 0) := by decide

/-! ## Checksum unit -/

/-- Vectors C1, C5, C9. -/
theorem test_xor8 : results .xor8 (filled digits (args 0 9)) = some (0x31, 0) ∧
    results .xor8 (args 4096 0) = some (0, 0) ∧ results .xor8 (filled [1, 2] (args 0 2)) = some (3, 0) := by decide

/-- Vectors C10, C11. -/
theorem test_xor8_range : report .xor8 (args 4090 7) = some (0x00100206, 4096, 4097) ∧
    report .xor8 (args 0xFFFFFFFF 2) = some (0x00100206, 4096, 1) := by decide

/-- Vectors C2, C6, C7, C8. -/
theorem test_crc16 : results .crc16 (filled digits (args 0 9)) = some (0x4B37, 0) ∧
    results .crc16 (filled [0] (args 0 1)) = some (0x40BF, 0) ∧
    results .crc16 (filled [0xFF] (args 0 1)) = some (0x00FF, 0) ∧
    results .crc16 (filled [1, 2] (args 0 2)) = some (0xE181, 0) ∧
    results .crc16 (filled [2, 1] (args 0 2)) = some (0x10C1, 0) := by decide +kernel

/-- Vectors C3, C4. -/
theorem test_crc16_variants : crc16 0 0 digits = 0xBB3D ∧ crc16 0xFFFF 0xFFFF digits = 0xB4C8 := by decide +kernel

/-- Vector C13. -/
theorem test_accClr : (run .accClr { State.reset with regs := { regsReset with crcAcc := 1, xorAcc := 1 } }).map
    (fun t => (t.regs.crcAcc, t.regs.xorAcc, t.regs.res0, t.regs.res1)) = some (0xFFFF, 0, 0xFFFF, 0) := by decide

/-- Vectors C14, C15. -/
theorem test_accFeed : results .accFeed (args 0 0) = some (0x40BF, 0) ∧
    report .accFeed (args 0x100 0) = some (0x00130206, 0xFF, 0x100) := by decide

/-- Vectors C16, C18; C17 starts from C16's accumulators. -/
theorem test_accSpan : results .accSpan (filled digits (args 0 5)) = some (0xA471, 0x31) ∧
    results .accSpan (args 0 0) = some (0xFFFF, 0) ∧
    results .accSpan (filled digits { args 5 4 with regs :=
      { (args 5 4).regs with crcAcc := 0xA471, xorAcc := 0x31 } }) = some (0x4B37, 0x31) := by decide +kernel

/-! ## Field codec -/

/-- Vectors F1, F2. -/
theorem test_packTbl : results .packTbl (args 3 0xA) = some (0x3A, 0) ∧
    results .packTbl (args 15 15) = some (0xFF, 0) := by decide

/-- Vector F3. -/
theorem test_packTbl_range : report .packTbl (args 16 0) = some (0x00200206, 15, 16) ∧
    report .packTbl (args 0 17) = some (0x00200206, 15, 17) ∧
    report .packTbl (args 16 17) = some (0x00200206, 15, 16) := by decide

/-- Vectors F4, F5. -/
theorem test_unpackTbl : results .unpackTbl (args 0x3A 0) = some (3, 0xA) ∧
    report .unpackTbl (args 0x100 0) = some (0x00210206, 0xFF, 0x100) := by decide

/-- Vectors F6, F7. -/
theorem test_split16 : results .split16 (args 0x1234 0) = some (0x34, 0x12) ∧
    report .split16 (args 0x10000 0) = some (0x00220206, 0xFFFF, 0x10000) := by decide

/-- Vectors F8, F9. -/
theorem test_join16 : results .join16 (args 0x34 0x12) = some (0x1234, 0) ∧
    report .join16 (args 0 0x100) = some (0x00230206, 0xFF, 0x100) := by decide

/-- Vectors F10, F12, F13. -/
theorem test_put16le : bytesAt 5 2 .put16le (args 5 0xBEEF) = some [0xEF, 0xBE] ∧
    report .put16le (args 4095 0x1234) = some (0x00240206, 4096, 4097) ∧
    report .put16le (args 0 0x10000) = some (0x00240206, 0xFFFF, 0x10000) ∧
    report .put16le (args 4095 0x10000) = some (0x00240206, 4096, 4097) := by decide

/-- Vectors F10, F11. -/
theorem test_get16le : results .get16le (filled [0xEF, 0xBE] (args 0 0)) = some (0xBEEF, 0) ∧
    results .get16le (filled [0xBE, 0xEF] (args 0 0)) = some (0xEFBE, 0) := by decide

/-- Vectors F14, F15. -/
theorem test_put32le : bytesAt 8 4 .put32le (args 8 0x01020304) = some [4, 3, 2, 1] ∧
    bytesAt 3 4 .put32le (args 3 0xA5A5A5A5) = some [0xA5, 0xA5, 0xA5, 0xA5] := by decide

/-- Vectors F14, F16. -/
theorem test_get32le : results .get32le (filled [4, 3, 2, 1] (args 0 0)) = some (0x01020304, 0) ∧
    report .get32le (args 4093 0) = some (0x00270206, 4096, 4097) ∧
    report .get32le (args 4092 0) = some (0x00270002, 0, 0) := by decide

/-- Vector F11. -/
theorem test_put16be : bytesAt 5 2 .put16be (args 5 0xBEEF) = some [0xBE, 0xEF] := by decide

/-- Vector F11. -/
theorem test_get16be : results .get16be (filled [0xBE, 0xEF] (args 0 0)) = some (0xBEEF, 0) := by decide

/-- Vector F17, the values below 0 and up to 254. -/
theorem test_attEnc : results .attEnc (args 4 0) = some (0, 0) ∧ results .attEnc (args 5 0) = some (1, 0) ∧
    results .attEnc (args 1234 0) = some (123, 0) ∧ results .attEnc (args 1235 0) = some (124, 0) ∧
    results .attEnc (args 2544 0) = some (254, 0) ∧ results .attEnc (args 0xFFFFFFFF 0) = some (0, 1) := by decide

/-- Vector F17, around the sentinel. -/
theorem test_attEnc_clamp : results .attEnc (args 2545 0) = some (254, 1) ∧
    results .attEnc (args 2549 0) = some (254, 1) ∧ results .attEnc (args 2550 0) = some (255, 2) ∧
    results .attEnc (args 2551 0) = some (254, 1) ∧ results .attEnc (args 0x80000000 0) = some (0, 1) ∧
    results .attEnc (args 0x7FFFFFFF 0) = some (254, 1) := by decide

/-- Vector F18. -/
theorem test_attDec : results .attDec (args 123 0) = some (1230, 0) ∧ results .attDec (args 254 0) = some (2540, 0) ∧
    results .attDec (args 255 0) = some (2550, 2) ∧
    report .attDec (args 256 0) = some (0x002B0206, 0xFF, 256) := by decide

/-- Vectors K1 to K4. -/
theorem test_scale : results .scale (args 193100000 0) = some (61792, 0) ∧
    results .scale (args 1562 0) = some (0, 1) ∧ results .scale (args 1563 0) = some (1, 1) ∧
    results .scale (args (-1563) 0) = some (0xFFFFFFFF, 1) ∧ results .scale (steps 15 10) = some (2, 1) ∧
    results .scale (steps (-15) 10) = some (0xFFFFFFFE, 1) ∧ results .scale (steps 14 10) = some (1, 1) := by decide

/-- Vectors K6 to K9. -/
theorem test_scale_ends : results .scale (args (-193100000) 0) = some (0xFFFF0EA0, 0) ∧
    results .scale (steps 0x80000000 1) = some (0x80000000, 0) ∧
    results .scale (args 0x7FFFFFFF 0) = some (687195, 1) ∧
    report .scale (steps 7 0) = some (0x002C0206, 1, 0) ∧ results .scale (steps 5 0xFFFFFFFF) = some (0, 1) := by decide

/-- Vectors U1, U2, U4. -/
theorem test_unscale : results .unscale (args 61792 0) = some (193100000, 0) ∧
    results .unscale (args 687194 0) = some (0x7FFFF6A2, 0) ∧ results .unscale (steps 5 0) = some (0, 0) ∧
    results .unscale (args (-1) 0) = some (0xFFFFF3CB, 0) := by decide

/-- Vectors U2, U3. -/
theorem test_unscale_range : report .unscale (args 687195 0) = some (0x002D0206, 0x7FFFFFFF, 0x800002D7) ∧
    results .unscale (args (-687194) 0) = some (0x8000095E, 0) ∧
    report .unscale (args (-687195) 0) = some (0x002D0206, 0x7FFFFFFF, 0x7FFFFD29) := by decide

/-! ## Frame builder -/

/-- The reset state with a descriptor, the payload at 0 and TX_OFF = 32. -/
def framing (cfg : BitVec 3) (msgid : Byte) (cmd : Half) (tbl : Byte) (payload : List Byte) : State :=
  filled payload { State.reset with regs :=
    { regsReset with
      descCfg := cfg, descMsgid := msgid, descCmd := cmd, descTbl := tbl, payLen := BitVec.ofNat 16 payload.length
      txOff := 32 } }

/-- The reset state with m-element arrays at 0, 8 and 16 and TX_OFF = 32. -/
def records (cfg : BitVec 3) (msgid tbl : Byte) (m : Half) (arrays : List Byte) : State :=
  filled arrays { State.reset with regs :=
    { regsReset with
      descCfg := cfg, descMsgid := msgid, descCmd := 0x25, descTbl := tbl, descRec := 0x40020130, chOff := 0
      portOff := 8, attOff := 16, chCnt := m, portCnt := m, attCnt := m, txOff := 32 } }

/-- Vectors B2, B7: a short and a long frame with a table byte. -/
theorem test_build :
    bytesAt 32 10 .build (framing 2 0x07 0x21 0x3A [0x04]) =
      some [0xDD, 0x01, 0x07, 0x03, 0x21, 0x3A, 0x04, 0x1B, 0xDD, 0x02] ∧
    bytesAt 32 12 .build (framing 3 0x20 0x05 0x3A []) =
      some [0xDD, 0x01, 0x20, 0x00, 0x03, 0xC0, 0x05, 0x3A, 0x84, 0x40, 0xDD, 0x02] := by decide +kernel

/-- Vectors B4, B12. -/
theorem test_build_results :
    (run .build (framing 1 0x09 0x12 0 [0xAA, 0xBB])).map (fun t => (t.regs.txLen, t.regs.res0, t.regs.res1)) =
      some (13, 4, 0xD6C4) ∧
    report .build (framing 0 0 0x100 0 []) = some (0x00300206, 0xFF, 0x100) := by decide +kernel

/-- Vector B9. -/
theorem test_buildRec :
    bytesAt 32 18 .buildRec (records 1 0x02 0 1 [5, 0, 0, 0, 0, 0, 0, 0, 1, 0, 0, 0, 0, 0, 0, 0, 123]) =
      some [0xDD, 0x01, 0x02, 0x00, 0x09, 0x80, 0x25, 0x30, 0x01, 0x02, 0x05, 0x40, 0x01, 0x7B, 0xE6, 0xB2, 0xDD,
        0x02] := by decide +kernel

/-- Vectors B13, B14, B16. -/
theorem test_buildRec_errors : report .buildRec (records 0 0 0 3 []) = some (0x00310A06, 1, 0) ∧
    report .buildRec { State.reset with regs := { regsReset with descCfg := 1, chCnt := 3, portCnt := 2, attCnt := 3 } } =
      some (0x00310106, 3, 2) ∧
    report .buildRec { State.reset with regs := { regsReset with descCfg := 1, chCnt := 3, portCnt := 2, attCnt := 4 } } =
      some (0x00310106, 3, 2) := by decide

/-! ## Response validator -/

/-- The reset state with a response at 0 and its RX_LEN. -/
def receiving (ctrl : BitVec 2) (cfg : BitVec 3) (msgid : Byte) (resplen : Half) (frame : List Byte) : State :=
  filled frame { State.reset with regs :=
    { regsReset with
      ctrl := ctrl, descCfg := cfg, descMsgid := msgid, descResplen := resplen
      rxLen := BitVec.ofNat 16 frame.length } }

/-- V1's frame. -/
def response : List Byte := [0xDD, 0x01, 0x05, 0x03, 0x00, 0x12, 0x34, 0x20, 0xDD, 0x02]

/-- Vectors V1 (at RX_OFF 0) and V2 (at RX_OFF 0): DATA_OFF, DATA_LEN, RX_DECL_LEN, RX_CKSUM, RX_CKSUM_CALC. -/
theorem test_parse :
    (run .parse (receiving 2 4 5 3 response)).map (fun t =>
      (t.regs.dataOff, t.regs.dataLen, t.regs.rxDeclLen, t.regs.rxCksum, t.regs.rxCksumCalc)) =
      some (5, 2, 3, 0x20, 0x20) ∧
    (run .parse (receiving 2 1 9 0 [0xDD, 0x01, 0x09, 0x00, 0x03, 0x00, 0xAB, 0xCD, 0xBE, 0x63, 0xDD, 0x02])).map (fun t =>
      (t.regs.dataOff, t.regs.dataLen, t.regs.rxDeclLen, t.regs.rxCksum, t.regs.rxCksumCalc)) =
      some (6, 2, 3, 0x63BE, 0x63BE) := by decide +kernel

/-- Vectors V4, V5, V6, V10, V11, V13. -/
theorem test_parse_errors :
    report .parse (receiving 0 0 5 0 [0xDD, 0x01, 0x06, 0x03, 0x00, 0x12, 0x34, 0x23, 0xDD, 0x02]) =
      some (0x00380606, 5, 6) ∧
    report .parse (receiving 0 0 5 0 [0xDD, 0x01, 0x05, 0x03, 0x07, 0x12, 0x34, 0x27, 0xDD, 0x02]) =
      some (0x00380806, 0, 7) ∧
    report .parse (receiving 0 4 5 4 response) = some (0x00380706, 4, 3) ∧
    report .parse (receiving 2 0 5 0 [0xDD, 0x01, 0x06, 0x03, 0x00, 0x12, 0x34, 0x22, 0xDD, 0x02]) =
      some (0x00380906, 0x23, 0x22) ∧
    report .parse (receiving 0 0 5 0 (response.take 7)) = some (0x00380506, 8, 7) ∧
    report .parse (receiving 0 0 5 0 (response.take 9 ++ [0x03])) = some (0x00380506, 0xDD02, 0xDD03) := by decide +kernel

/-! ## Witnesses: the hypotheses of each obligation can be met -/

theorem test_witness_DecodeSelectsExactlyTheDefinedWords :
    decode 0x38 = .ok .parse ∧ (0x38 : Word) = encode .parse := by decide

/-- The smallest and the largest reserved bits; opcodes next to a defined range and the largest. -/
theorem test_witness_IllegalWordsCompleteWithIllegalCommand :
    ((pendingWord 0x100).regs.status.busy = true ∧ nextTurn (pendingWord 0x100) = .engine) ∧
    (0x00000100 : Word).extractLsb' 8 24 ≠ 0 ∧ (0xFFFFFF00 : Word).extractLsb' 8 24 ≠ 0 ∧
    ((0x00000002 : Word).extractLsb' 8 24 = 0 ∧ opcodeDefined ((0x00000002 : Word).extractLsb' 0 8) = false) ∧
    ((0x000000FF : Word).extractLsb' 8 24 = 0 ∧ opcodeDefined ((0x000000FF : Word).extractLsb' 0 8) = false) := by
  decide

theorem test_witness_StepRunsTheDecodedCommand : (pendingWord 0x38).regs.status.busy = true ∧
    nextTurn (pendingWord 0x38) = .engine ∧ decode (pendingWord 0x38).pending = .ok .parse := by decide

/-- Both values of BUSY in the engine's turn. -/
theorem test_witness_EngineStepAlwaysCompletes :
    nextTurn (pendingWord 0x0) = .engine ∧ (pendingWord 0x0).regs.status.busy = true ∧
    nextTurn { State.reset with sched := [.engine] } = .engine ∧
    ({ State.reset with sched := [.engine] } : State).regs.status.busy = false := by decide

theorem test_witness_NonStoringCommandsKeepEveryByte :
    storesBuf .xor8 = false ∧ (run .xor8 (args 4096 0)).isSome = true := by decide

theorem test_witness_CommandsKeepTheHostsRegisters :
    (run .nop State.reset).isSome = true ∧ (run .sreset State.reset).isSome = true := by decide

theorem test_witness_SresetRestoresEveryRegister : (0x0AC, 4096) ∈ resetMap State.reset.cfg ∧
    (0x0AC : BitVec 17) ≠ 0x008 ∧ ({ State.reset with pending := 1 } : State).pending = 0x00000001 := by decide

/-- Xor8OfASpan, Crc16OfASpan, AccSpanFeedsASpan and StreamedChecksumsEqualOneShot: the whole of BUF, the empty span at
its end, and one byte past the end, also with a sum above 2^32. -/
theorem test_witness_spans :
    (args 0 4096).regs.arg0.toNat + (args 0 4096).regs.arg1.toNat ≤ (args 0 4096).cfg.bufSize ∧
    (args 4096 0).regs.arg0.toNat + (args 4096 0).regs.arg1.toNat ≤ (args 4096 0).cfg.bufSize ∧
    (args 4096 1).cfg.bufSize < (args 4096 1).regs.arg0.toNat + (args 4096 1).regs.arg1.toNat ∧
    (args 0xFFFFFFFF 2).cfg.bufSize <
      (args 0xFFFFFFFF 2).regs.arg0.toNat + (args 0xFFFFFFFF 2).regs.arg1.toNat := by decide

theorem test_witness_AccFeedFeedsOneByte : (args 0xFF 0).regs.arg0.toNat ≤ 0xFF ∧
    0xFF < (args 0x100 0).regs.arg0.toNat := by decide

theorem test_witness_AdjacentSpansAccumulateAsOne :
    1 + (4000 + 95) ≤ State.reset.cfg.bufSize ∧ 1 + (4000 + 95) < 2 ^ 32 := by decide

/-- The shift named by the hypothesis exists: it is the model's own. -/
theorem test_witness_ChecksumAlgorithmsAreTheSpecs (x : Half) :
    crcShift x = if x.getLsbD 0 then (x >>> 1) ^^^ 0xA001 else x >>> 1 := rfl

theorem test_witness_XorIsOrderFreeAndCrcIsNot : [(1 : Byte), 2].Perm [2, 1] := by decide

theorem test_witness_CrcNoticesAChangedByte : (0x00 : Byte) ≠ 0x80 := by decide

theorem test_witness_PackTblPacksTwoNibbles : 15 < (args 16 0).regs.arg0.toNat ∧
    (args 15 16).regs.arg0.toNat ≤ 15 ∧ 15 < (args 15 16).regs.arg1.toNat ∧
    (args 15 15).regs.arg0.toNat ≤ 15 ∧ (args 15 15).regs.arg1.toNat ≤ 15 := by decide

/-- UnpackTblSplitsTheNibbles and Split16GivesLowThenHigh. -/
theorem test_witness_one_operand : 0xFF < (args 0x100 0).regs.arg0.toNat ∧ (args 0xFF 0).regs.arg0.toNat ≤ 0xFF ∧
    0xFFFF < (args 0x10000 0).regs.arg0.toNat ∧ (args 0xFFFF 0).regs.arg0.toNat ≤ 0xFFFF := by decide

theorem test_witness_Join16JoinsLowAndHigh : 0xFF < (args 0x100 0).regs.arg0.toNat ∧
    (args 0xFF 0x100).regs.arg0.toNat ≤ 0xFF ∧ 0xFF < (args 0xFF 0x100).regs.arg1.toNat ∧
    (args 0xFF 0xFF).regs.arg0.toNat ≤ 0xFF ∧ (args 0xFF 0xFF).regs.arg1.toNat ≤ 0xFF := by decide

/-- The last offset that fits and the first that does not, the largest value that fits and the first that does not. -/
theorem test_witness_Put16StoresTwoBytes : (args 4095 0).cfg.bufSize < (args 4095 0).regs.arg0.toNat + 2 ∧
    (args 4094 0x10000).regs.arg0.toNat + 2 ≤ (args 4094 0x10000).cfg.bufSize ∧
    0xFFFF < (args 4094 0x10000).regs.arg1.toNat ∧
    (args 4094 0xFFFF).regs.arg0.toNat + 2 ≤ (args 4094 0xFFFF).cfg.bufSize ∧
    (args 4094 0xFFFF).regs.arg1.toNat ≤ 0xFFFF := by decide

/-- Put32leStoresFourBytes and Get32leLoadsFourBytes. -/
theorem test_witness_four_bytes : (args 4093 0).cfg.bufSize < (args 4093 0).regs.arg0.toNat + 4 ∧
    (args 4092 0).regs.arg0.toNat + 4 ≤ (args 4092 0).cfg.bufSize := by decide

theorem test_witness_Get16LoadsTwoBytes : (args 4095 0).cfg.bufSize < (args 4095 0).regs.arg0.toNat + 2 ∧
    (args 4094 0).regs.arg0.toNat + 2 ≤ (args 4094 0).cfg.bufSize := by decide

/-- The sentinel, the negative end, the ends of the codes 0 and 254, and the values clamped from above. -/
theorem test_witness_AttEncRoundsClampsAndKeepsTheSentinel : (args 2550 0).regs.arg0.toInt = 2550 ∧
    (args 0xFFFFFFFF 0).regs.arg0.toInt < 0 ∧
    (0 ≤ (args 0 0).regs.arg0.toInt ∧ 10 * ((0 : Nat) : Int) - 5 ≤ (args 0 0).regs.arg0.toInt ∧
      (args 4 0).regs.arg0.toInt ≤ 10 * ((0 : Nat) : Int) + 4) ∧
    (10 * ((254 : Nat) : Int) - 5 ≤ (args 2535 0).regs.arg0.toInt ∧
      (args 2544 0).regs.arg0.toInt ≤ 10 * ((254 : Nat) : Int) + 4) ∧
    (2545 ≤ (args 2545 0).regs.arg0.toInt ∧ (args 2545 0).regs.arg0.toInt ≠ 2550) ∧
    (2545 ≤ (args 2551 0).regs.arg0.toInt ∧ (args 2551 0).regs.arg0.toInt ≠ 2550) := by decide

/-- AttDecMultipliesByTen and AttCodesComeBackAndTheSentinelIsExact. -/
theorem test_witness_codes : 0xFF < (args 0x100 0).regs.arg0.toNat ∧ (args 0xFE 0).regs.arg0.toNat ≤ 0xFE ∧
    (args 0xFF 0).regs.arg0.toNat = 0xFF := by decide

/-- ScaleRoundsToTheNearestStep and UnscaleUndoesScaleExactlyWhenExact; 15 with STEP 10 is a tie. -/
theorem test_witness_ScaleRoundsToTheNearestStep : (steps 7 0).regs.stepSize.toNat = 0 ∧
    (steps 15 10).regs.stepSize.toNat ≠ 0 ∧
    2 * |(2 : Int) * (steps 15 10).regs.stepSize.toNat - (steps 15 10).regs.arg0.toInt| =
      (steps 15 10).regs.stepSize.toNat := by decide

/-- Both ends of i32 and the first product past each. -/
theorem test_witness_UnscaleMultipliesOrRaises :
    -2 ^ 31 ≤ (steps 0xFFFFFFFF 0x80000000).regs.arg0.toInt * (steps 0xFFFFFFFF 0x80000000).regs.stepSize.toNat ∧
    (steps 1 0x7FFFFFFF).regs.arg0.toInt * (steps 1 0x7FFFFFFF).regs.stepSize.toNat < 2 ^ 31 ∧
    (steps 0xFFFFFFFF 0x80000001).regs.arg0.toInt * (steps 0xFFFFFFFF 0x80000001).regs.stepSize.toNat < -2 ^ 31 ∧
    2 ^ 31 ≤ (steps 1 0x80000000).regs.arg0.toInt * (steps 1 0x80000000).regs.stepSize.toNat := by decide

/-- UnpackUndoesPack, SplitAndJoinAreInverse and GetReadsWhatPutStored. -/
theorem test_witness_round_trips : ((args 15 15).regs.arg0.toNat ≤ 15 ∧ (args 15 15).regs.arg1.toNat ≤ 15) ∧
    ((args 0xFF 0xFF).regs.arg0.toNat ≤ 0xFF ∧ (args 0xFF 0xFF).regs.arg1.toNat ≤ 0xFF) ∧
    (args 0xFFFF 0).regs.arg0.toNat ≤ 0xFFFF ∧
    ((args 4094 0xFFFF).regs.arg0.toNat + 2 ≤ (args 4094 0xFFFF).cfg.bufSize ∧
      (args 4094 0xFFFF).regs.arg1.toNat ≤ 0xFFFF) ∧
    (args 4092 0).regs.arg0.toNat + 4 ≤ (args 4092 0).cfg.bufSize := by decide

/-- A short and a long descriptor without a table byte, and one with; the long form's command word and CRC are those
of vector B6. -/
theorem test_witness_ComposedFrameLayout :
    ([] : List Byte) = (if regsReset.descCfg.getLsbD 1 then [regsReset.descTbl] else []) ∧
    regsReset.descCfg.getLsbD 0 = false ∧
    [0x3A] = (if (framing 3 0x20 5 0x3A []).regs.descCfg.getLsbD 1 then
      [(framing 3 0x20 5 0x3A []).regs.descTbl] else []) ∧
    (framing 1 0x20 5 0 []).regs.descCfg.getLsbD 0 = true ∧
    (0x8005 : Half) = (framing 1 0x20 5 0 []).regs.descCmd |||
      (framing 1 0x20 5 0 []).regs.cmdwFlags.extractLsb' 0 16 |||
        (if (framing 1 0x20 5 0 []).regs.descCfg.getLsbD 1 then
          (framing 1 0x20 5 0 []).regs.cmdwFlags.extractLsb' 16 16 else 0) ∧
    (0xC4A5 : Half) = crc16 ((framing 1 0x20 5 0 []).regs.crcCfg.extractLsb' 0 16)
      ((framing 1 0x20 5 0 []).regs.crcCfg.extractLsb' 16 16) [0x20, 0x00, 0x02, 0x80, 0x05] := by decide +kernel

/-- A short BUILD with payload and transmit spans, and the largest frame. -/
def building (payOff payLen txOff frameMax : Half) (cmd : Half) : State := { State.reset with regs :=
  { regsReset with descCmd := cmd, payOff := payOff, payLen := payLen, txOff := txOff, frameMax := frameMax } }

/-- The clauses of R187 in order: step 1, step 2, step 3's two limits, step 5, and success with a frame that ends at the
end of BUF; n = 1 + payLen and tot = 8 + payLen. -/
theorem test_witness_BuildFollowsItsSteps :
    ((building 0 0 0 256 0x100).regs.descCfg.getLsbD 0 = false ∧ 0xFF < (building 0 0 0 256 0x100).regs.descCmd.toNat) ∧
    ((building 4090 7 0 256 0xFF).regs.descCmd.toNat ≤ 0xFF ∧ (building 4090 7 0 256 0xFF).cfg.bufSize <
      (building 4090 7 0 256 0xFF).regs.payOff.toNat + (building 4090 7 0 256 0xFF).regs.payLen.toNat) ∧
    ((building 3841 255 0 256 0).regs.payOff.toNat + (building 3841 255 0 256 0).regs.payLen.toNat ≤
      (building 3841 255 0 256 0).cfg.bufSize ∧ 0xFF < 1 + 0 + (building 3841 255 0 256 0).regs.payLen.toNat) ∧
    (1 + 0 + (building 0 254 0 261 0).regs.payLen.toNat ≤ 0xFF ∧
      (building 0 254 0 261 0).regs.frameMax.toNat < 7 + (1 + 0 + (building 0 254 0 261 0).regs.payLen.toNat)) ∧
    (7 + (1 + 0 + (building 0 2 4087 10 0).regs.payLen.toNat) ≤ (building 0 2 4087 10 0).regs.frameMax.toNat ∧
      (building 0 2 4087 10 0).cfg.bufSize <
        (building 0 2 4087 10 0).regs.txOff.toNat + (7 + (1 + 0 + (building 0 2 4087 10 0).regs.payLen.toNat))) ∧
    (1 + 0 + (building 0 2 4086 10 0).regs.payLen.toNat ≤ 0xFF ∧
      7 + (1 + 0 + (building 0 2 4086 10 0).regs.payLen.toNat) ≤ (building 0 2 4086 10 0).regs.frameMax.toNat ∧
      (building 0 2 4086 10 0).regs.txOff.toNat + (7 + (1 + 0 + (building 0 2 4086 10 0).regs.payLen.toNat)) ≤
        (building 0 2 4086 10 0).cfg.bufSize) := by decide

/-- A BUILD_REC without a table byte, with its counts, array offsets, TX_OFF and FRAME_MAX. -/
def recording (cfg : BitVec 3) (ch port att chOff portOff attOff tx fmax : Half) (size : Nat) : State :=
  { State.reset with
    cfg := ⟨size, 0⟩
    regs := { regsReset with
      descCfg := cfg, chCnt := ch, portCnt := port, attCnt := att, chOff := chOff, portOff := portOff
      attOff := attOff, txOff := tx, frameMax := fmax } }

/-- Does a BUILD_REC end with this ERRCODE, ERR_EXP and ERR_ACT? -/
def recReport (s : State) : Option (BitVec 4 × Word × Word) :=
  (run .buildRec s).map fun t => (t.regs.status.errCode, t.regs.errExp, t.regs.errAct)

/-- The clauses of R188 up to step 3, each reached by a concrete state: step 1, step 2's two counts, step 3's spans. -/
theorem test_witness_BuildRecFollowsItsSteps_arrays :
    recReport (recording 0 1 1 1 0 0 0 0 256 4096) = some (10, 1, 0) ∧
    recReport (recording 1 3 2 3 0 0 0 0 256 4096) = some (1, 3, 2) ∧
    recReport (recording 1 3 3 4 0 0 0 0 256 4096) = some (1, 3, 4) ∧
    recReport (recording 1 3 3 3 4094 0 0 0 256 4096) = some (2, 4096, 4097) ∧
    recReport (recording 1 3 3 3 4093 4094 0 0 256 4096) = some (2, 4096, 4097) ∧
    recReport (recording 1 3 3 3 4093 4093 4094 0 256 4096) = some (2, 4096, 4097) := by decide +kernel

/-- R188 from step 4 on: step 4 (vector B24), step 5 (vector B23), step 6, and success with a frame that ends at the end of
BUF. -/
theorem test_witness_BuildRecFollowsItsSteps_frame :
    recReport (recording 1 9362 9362 9362 0 9362 18724 0 0xFFFF 65536) = some (3, 0xFFFF, 65536) ∧
    recReport (recording 1 36 36 36 0 0 0 0 256 4096) = some (3, 256, 263) ∧
    recReport (recording 1 0 0 0 0 0 0 4086 11 4096) = some (2, 4096, 4097) ∧
    recReport (recording 1 0 0 0 4096 4096 4096 4085 11 4096) = some (0, 0, 0) := by decide +kernel

/-- EveryBuiltFrameObeysTheFrameLaws and ParseFindsNoFramingFaultInABuiltFrame: both commands, both formats. -/
theorem test_witness_EveryBuiltFrameObeysTheFrameLaws :
    (run .build (framing 0 1 0 0 [])).map (fun t => t.regs.status.errCode) = some 0 ∧
    (run .build (framing 1 1 0 0 [])).map (fun t => t.regs.status.errCode) = some 0 ∧
    (run .buildRec (records 1 2 0 0 [])).map (fun t => t.regs.status.errCode) = some 0 := by decide +kernel

theorem test_witness_ResponseFieldsLieWhereTheFormatSays :
    (receiving 0 0 5 0 response).regs.descCfg.getLsbD 0 = false ∧
    (receiving 0 1 5 0 response).regs.descCfg.getLsbD 0 = true ∧
    10 = (receiving 0 0 5 0 response).regs.rxLen.toNat := by decide

/-- Does a PARSE end with this ERRCODE? -/
def parseCode (s : State) : Option (BitVec 4) := (run .parse s).map fun t => t.regs.status.errCode

/-- The clauses of R219 in order, each reached by a concrete state: span, length (one byte short), start marker, stop marker,
checksum, message id, result, declared length, and success with and without the two optional checks. -/
theorem test_witness_ParseReportsTheFirstFailingCheck :
    parseCode { State.reset with regs := { regsReset with rxOff := 4090, rxLen := 7 } } = some 2 ∧
    parseCode (receiving 0 0 5 0 (response.take 7)) = some 5 ∧
    parseCode (receiving 0 0 5 0 (0xDE :: response.tail)) = some 5 ∧
    parseCode (receiving 0 0 5 0 (response.take 9 ++ [0x03])) = some 5 ∧
    parseCode (receiving 2 0 5 0 (response.take 7 ++ [0xDF, 0xDD, 0x02])) = some 9 ∧
    parseCode (receiving 2 0 6 0 response) = some 6 ∧
    parseCode (receiving 0 0 5 0 [0xDD, 0x01, 0x05, 0x03, 0x07, 0x12, 0x34, 0x27, 0xDD, 0x02]) = some 8 ∧
    parseCode (receiving 0 4 5 2 response) = some 7 ∧ parseCode (receiving 2 4 5 3 response) = some 0 ∧
    parseCode (receiving 0 0 5 0 (response.take 7 ++ [0xDF, 0xDD, 0x02])) = some 0 ∧
    parseCode (receiving 0 0 5 0 [0xDD, 0x01, 0x05, 0x01, 0x00, 0x04, 0xDD, 0x02]) = some 0 := by decide +kernel

/-- Two states with different hosts that agree on what a command reads. -/
theorem test_witness_CommandsDependOnlyOnTheSnapshot : sameInputs State.reset (oneAccess ⟨0, .word, .read⟩) ∧
    State.reset ≠ oneAccess ⟨0, .word, .read⟩ :=
  ⟨⟨rfl, rfl, rfl, fun _ _ => rfl⟩, by decide⟩

/-- A command is pending and the host's next access is a read of STATUS, or of ID. -/
theorem test_witness_PollingDoesNotDisturbACommand : ∀ a ∈ [(⟨0x000, .word, .read⟩ : HostAccess), ⟨0x008, .word, .read⟩],
    ({ pendingWord 0x38 with host := [a] } : State).regs.status.busy = true ∧
    ({ pendingWord 0x38 with host := [a] } : State).host = a :: [] ∧
    a.op = .read ∧ a.width = .word ∧ (a.off = 0x000 ∨ a.off = 0x008) := by decide

/-- The held accesses next to the ones that never stall: another register, a write, and a narrower read of STATUS. -/
theorem test_witness_OtherAccessesStallWhileBusy : ∀ a ∈ [(⟨0x00C, .word, .read⟩ : HostAccess), ⟨0x008, .word, .write 2⟩,
      ⟨0x008, .byte, .read⟩],
    ({ pendingWord 0 with host := [a], sched := [.host] } : State).regs.status.busy = true ∧
    nextTurn { pendingWord 0 with host := [a], sched := [.host] } = .host ∧
    ¬(a.op = .read ∧ a.width = .word ∧ (a.off = 0x000 ∨ a.off = 0x008)) := by decide

/-- The performed accesses: any one while BUSY = 0, the reads of ID and STATUS while BUSY = 1. -/
theorem test_witness_OtherAccessesStallWhileBusy_performed :
    (nextTurn (oneAccess ⟨0x00C, .word, .write 0⟩) = .host ∧
      (oneAccess ⟨0x00C, .word, .write 0⟩).regs.status.busy = false) ∧
    ∀ a ∈ [(⟨0x000, .word, .read⟩ : HostAccess), ⟨0x008, .word, .read⟩],
      nextTurn { pendingWord 0 with host := [a], sched := [.host] } = .host ∧
      a.op = .read ∧ a.width = .word ∧ (a.off = 0x000 ∨ a.off = 0x008) := by decide

/-- The invariant holds of the reset state, and a step from it answers a next state. -/
theorem test_witness_StepKeepsTheInvariant : Inv State.reset ∧ answer (step State.reset) = some State.reset :=
  ⟨⟨by decide, by decide, by decide, by decide, by decide, by decide, by decide⟩, by decide⟩

/-- Rows of both lists, and the rows whose exchange no round trip would show. -/
theorem test_witness_HostReadsBackWhatItWrote : (0x004, 0x3) ∈ rwMap ∧ (0x08C, 0xFFFF) ∈ rwMap ∧
    (0x01C, 0) ∈ resetMap State.reset.cfg ∧ (0x01C : BitVec 17) ≠ 0x018 ∧
    (rwFields.map fun f => (f.off, f.get { regsReset with arg0 := 7, txOff := 9 })).filter (fun p => p.2 == 7 || p.2 == 9) =
      [(0x018, 7), (0x080, 9)] := by decide

/-- Both ends of the reserved range, and both ends of the RO registers. -/
theorem test_witness_ReadOnlyAndReservedOffsetsIgnoreWrites : 0x000 ∈ roMap ∧ 0x0AC ∈ roMap ∧
    (0x0B0 ≤ (0x0B0 : BitVec 17).toNat ∧ (0x0B0 : BitVec 17).toNat % 4 = 0) ∧
    ((0xFFC : BitVec 17).toNat < 0x1000 ∧ (0xFFC : BitVec 17).toNat % 4 = 0) ∧
    (roFields.map fun f => (f.1, f.2 { State.reset with regs := { regsReset with res0 := 7, errAct := 9 } })).filter
      (fun p => p.2 == 7 || p.2 == 9) = [(0x014, 9), (0x020, 7)] := by decide

theorem test_witness_OnlyHostAccessesFault :
    stop (step (oneAccess ⟨0x1FFFF, .byte, .read⟩)) = some .unmapped := by decide

/-- The last word, the last halfword and the last byte of BUF. -/
theorem test_witness_BufAccessesAreLittleEndian :
    (0x1FFC % widthBytes .word = 0 ∧ 0x1FFC + widthBytes .word ≤ 0x1000 + State.reset.cfg.bufSize) ∧
    (0x1FFE % widthBytes .half = 0 ∧ 0x1FFE + widthBytes .half ≤ 0x1000 + State.reset.cfg.bufSize) ∧
    (0x1FFF % widthBytes .byte = 0 ∧ 0x1FFF + widthBytes .byte ≤ 0x1000 + State.reset.cfg.bufSize) := by decide

theorem test_witness_HostReadsHaveNoSideEffect :
    (answer (hostAccess State.reset ⟨0x0AC, .word, .read⟩)).isSome = true := by decide

/-- The first address of the window, whatever BASE is. -/
theorem test_witness_WindowHoldsExactlyItsOffsets : windowOffset Config.base = some 0 := by
  unfold windowOffset
  rw [if_pos ⟨Nat.le_refl _, Nat.lt_add_of_pos_right (by decide)⟩, Nat.sub_self]
  rfl

theorem test_witness_IrqFollowsEnableAndDone : irq { State.reset with regs :=
      { regsReset with ctrl := 1, status := ⟨false, true, false, 0, 0⟩ } } = true ∧
    (0x2 : Word).getLsbD 1 = true ∧ (0x2 : Word).getLsbD 0 = false := by decide

theorem test_witness_ResetMapIsTheSpecs : (0x034, 3125) ∈ resetMap State.reset.cfg := by decide

/-- Also while a command runs. -/
theorem test_witness_HardwareResetAtAnyTime : nextTurn { pendingWord 0x38 with sched := [.reset] } = .reset := by decide

end Sys2Proof.Tests
end

section
/-! SUPPORT. Scope (00_scope.md): the reset map, what a command's result depends on (R15, R19), and the invariant that
every step keeps. -/

namespace Sys2Proof.Machine

/-! ## The reset column of the map (10_state.md R52) -/

theorem statusWord_statusReset : statusWord statusReset = 0 := by decide

/-- A state whose registers are at their reset values reads the map's reset column, with its own parameters in it. -/
theorem busRead_of_regsReset (s : State) (hregs : s.regs = regsReset) :
    ∀ p ∈ resetMap s.cfg, busRead s (.reg (regAt p.1.toNat)) .word = p.2 := by
  obtain ⟨cfg, regs, pending, buf, epoch, host, replies, sched⟩ := s
  subst hregs
  exact List.forall_mem_cons.2 ⟨rfl, List.forall_mem_cons.2 ⟨rfl, List.forall_mem_cons.2
    ⟨statusWord_statusReset, List.map_inj_left.1 rfl⟩⟩⟩

/-- Settles O59: the reset state is one such state, and it carries the parameters of `Config.hce`. -/
theorem resetMapIsTheSpecs : Obligations.ResetMapIsTheSpecs :=
  ⟨rfl, rfl, busRead_of_regsReset State.reset rfl⟩

/-! ## What two states with the same inputs share (00_scope.md R15, R19) -/

section Snapshot

variable {s t : State}

theorem sameInputs.regs_eq (h : sameInputs s t) : s.regs = t.regs := h.1

theorem sameInputs.pending_eq (h : sameInputs s t) : s.pending = t.pending := h.2.1

theorem sameInputs.bufSize_eq (h : sameInputs s t) : s.cfg.bufSize = t.cfg.bufSize := h.2.2.1

theorem sameInputs.bufByte_eq (h : sameInputs s t) {a : Nat} (ha : a < s.cfg.bufSize) : bufByte s a = bufByte t a :=
  h.2.2.2 a ha

theorem sameInputs.memRead_eq (h : sameInputs s t) {a n : Nat} (hspan : a + n ≤ s.cfg.bufSize) :
    memRead s a n = memRead t a n :=
  memRead_congr a n fun _ _ => h.bufByte_eq (by omega)

theorem sameInputs.lastOpOf_eq (h : sameInputs s t) : lastOpOf s = lastOpOf t := by
  unfold lastOpOf; rw [h.pending_eq]

/-- Equal registers written to both states leave the inputs equal. -/
theorem sameInputs.withRegs (h : sameInputs s t) (r : Regs) :
    sameInputs { s with regs := r } { t with regs := r } :=
  ⟨rfl, h.pending_eq, h.bufSize_eq, fun _ ha => h.bufByte_eq ha⟩

/-- Equal bytes written to the same place of both states leave the inputs equal. -/
theorem sameInputs.memWrite (h : sameInputs s t) (a : Nat) (bs : List Byte) :
    sameInputs (memWrite s a bs) (memWrite t a bs) := by
  refine ⟨h.regs_eq, h.pending_eq, h.bufSize_eq, fun c hc => ?_⟩
  rw [bufByte_memWrite, bufByte_memWrite]
  split
  · rfl
  · exact h.bufByte_eq hc

theorem sameInputs.complete (h : sameInputs s t) : sameInputs (complete s) (complete t) := by
  unfold Machine.complete
  rw [h.regs_eq, h.lastOpOf_eq]
  exact h.withRegs _

theorem sameInputs.raise (h : sameInputs s t) (e : ErrorKind) (x a : Word) :
    sameInputs (raise e x a s) (raise e x a t) := by
  unfold Machine.raise
  rw [h.regs_eq, h.lastOpOf_eq]
  exact h.withRegs _

/-! ## The same result from the same inputs: one rule per shared operation -/

/-- Both commands answer next states, and these have the same inputs. -/
def sameResult (x y : Result) : Prop := ∃ s' t', x = .next s' ∧ y = .next t' ∧ sameInputs s' t'

theorem sameResult_completed (h : sameInputs s t) : sameResult (completed s) (completed t) :=
  ⟨_, _, rfl, rfl, h.complete⟩

theorem sameResult_raised (h : sameInputs s t) (e : ErrorKind) (x a : Word) :
    sameResult (raised e x a s) (raised e x a t) :=
  ⟨_, _, rfl, rfl, h.raise e x a⟩

theorem sameResult_withRes0 (h : sameInputs s t) (r : Word) : sameResult (withRes0 s r) (withRes0 t r) := by
  unfold withRes0
  rw [h.regs_eq]
  exact sameResult_completed (h.withRegs _)

theorem sameResult_withRes (h : sameInputs s t) (r q : Word) : sameResult (withRes s r q) (withRes t r q) := by
  unfold withRes
  rw [h.regs_eq]
  exact sameResult_completed (h.withRegs _)

theorem sameResult_accumulated (h : sameInputs s t) (c : Half) (x : Byte) :
    sameResult (accumulated s c x) (accumulated t c x) := by
  unfold accumulated
  rw [h.regs_eq]
  exact sameResult_completed (h.withRegs _)

theorem sameResult_ite {p : Prop} [Decidable p] {w x y z : Result} (hpos : p → sameResult w y)
    (hneg : ¬p → sameResult x z) : sameResult (if p then w else x) (if p then y else z) := by
  split
  · next hp => exact hpos hp
  · next hp => exact hneg hp

/-- A check of a command's own: what follows may use that it passed. -/
theorem sameResult_guard (h : sameInputs s t) {p : Prop} [Decidable p] {e : ErrorKind} {x a : Word} {y z : Result}
    (hgo : ¬p → sameResult y z) :
    sameResult (if p then raised e x a s else y) (if p then raised e x a t else z) :=
  sameResult_ite (fun _ => sameResult_raised h e x a) hgo

/-- What follows a span check may use that the span lies in BUF. -/
theorem sameResult_checkSpan (h : sameInputs s t) {off len : Nat} {x y : Result}
    (hgo : off + len ≤ s.cfg.bufSize → sameResult x y) :
    sameResult (checkSpan s off len x) (checkSpan t off len y) := by
  unfold checkSpan spanOk
  rw [← h.bufSize_eq]
  exact sameResult_ite (fun hspan => hgo (of_decide_eq_true hspan)) fun _ => sameResult_raised h _ _ _

theorem sameResult_checkMax (h : sameInputs s t) (max : Nat) (v : Word) {x y : Result} (hgo : sameResult x y) :
    sameResult (checkMax s max v x) (checkMax t max v y) :=
  sameResult_ite (fun _ => hgo) fun _ => sameResult_raised h _ _ _

/-- The builder's tail reads the registers and its payload only. -/
theorem sameResult_emitFrame (h : sameInputs s t) (n : Nat) (payload : List Byte) :
    sameResult (emitFrame s n payload) (emitFrame t n payload) := by
  unfold emitFrame
  rw [← h.regs_eq]
  refine sameResult_guard h fun _ => ?_
  refine sameResult_guard h fun _ => ?_
  exact sameResult_checkSpan h fun _ => sameResult_completed ((h.withRegs _).memWrite _ _)

/-! ## The commands that read BUF -/

/-- XOR8, CRC16 and the loads: RES0 is a function of the registers and the bytes of a checked span at ARG0. -/
theorem sameResult_spanToRes0 (h : sameInputs s t) (len : Regs → Nat) (f : Regs → List Byte → Word) :
    sameResult
      (checkSpan s s.regs.arg0.toNat (len s.regs)
        (withRes0 s (f s.regs (memRead s s.regs.arg0.toNat (len s.regs)))))
      (checkSpan t t.regs.arg0.toNat (len t.regs)
        (withRes0 t (f t.regs (memRead t t.regs.arg0.toNat (len t.regs))))) := by
  rw [← h.regs_eq]
  refine sameResult_checkSpan h fun hspan => ?_
  rw [h.memRead_eq hspan]
  exact sameResult_withRes0 h _

theorem sameResult_execAccSpan (h : sameInputs s t) : sameResult (execAccSpan s) (execAccSpan t) := by
  unfold execAccSpan
  rw [← h.regs_eq]
  refine sameResult_checkSpan h fun hspan => ?_
  rw [h.memRead_eq hspan]
  exact sameResult_accumulated h _ _

theorem sameResult_execBuild (h : sameInputs s t) : sameResult (execBuild s) (execBuild t) := by
  unfold execBuild
  rw [← h.regs_eq]
  refine sameResult_guard h fun _ => ?_
  refine sameResult_checkSpan h fun hspan => ?_
  rw [h.memRead_eq hspan]
  exact sameResult_emitFrame h _ _

/-- The records of a payload whose three lists lie in BUF. -/
theorem sameInputs.recordPayload_eq (h : sameInputs s t) {m : Nat}
    (hch : s.regs.chOff.toNat + m ≤ s.cfg.bufSize) (hport : s.regs.portOff.toNat + m ≤ s.cfg.bufSize)
    (hatt : s.regs.attOff.toNat + m ≤ s.cfg.bufSize) : recordPayload s m = recordPayload t m := by
  refine List.flatMap_congr fun i hi => ?_
  have him : i < m := List.mem_range.1 hi
  unfold channelRecord
  rw [← h.regs_eq, h.bufByte_eq (a := s.regs.chOff.toNat + i) (by omega),
    h.bufByte_eq (a := s.regs.portOff.toNat + i) (by omega), h.bufByte_eq (a := s.regs.attOff.toNat + i) (by omega)]

theorem sameResult_execBuildRec (h : sameInputs s t) : sameResult (execBuildRec s) (execBuildRec t) := by
  unfold execBuildRec
  rw [← h.regs_eq]
  refine sameResult_guard h fun _ => ?_
  refine sameResult_guard h fun _ => ?_
  refine sameResult_guard h fun _ => ?_
  refine sameResult_checkSpan h fun hch => sameResult_checkSpan h fun hport => sameResult_checkSpan h fun hatt => ?_
  rw [h.recordPayload_eq hch hport hatt]
  exact sameResult_emitFrame h _ _

/-! ## PARSE: past the span and length checks every frame byte it reads lies in BUF -/

/-- The shortest frame's parts (43_response_validator.md R210, R213). -/
theorem minFrame_eq (r : Regs) : minFrame r = 6 + 2 * fieldWidth r + r.resultOff.toNat := by
  unfold minFrame resultAt; omega

theorem fieldWidth_pos (r : Regs) : 1 ≤ fieldWidth r := by
  unfold fieldWidth; split <;> omega

theorem resultAt_lt_minFrame (r : Regs) : resultAt r < minFrame r := by
  unfold minFrame; omega

theorem sameInputs.rxByte_eq (h : sameInputs s t) (hspan : s.regs.rxOff.toNat + rxN s.regs ≤ s.cfg.bufSize) {i : Nat}
    (hi : i < rxN s.regs) : rxByte s i = rxByte t i := by
  unfold rxByte
  rw [← h.regs_eq]
  exact h.bufByte_eq (by omega)

section Frame

variable (h : sameInputs s t) (hspan : s.regs.rxOff.toNat + rxN s.regs ≤ s.cfg.bufSize)
  (hmin : minFrame s.regs ≤ rxN s.regs)
include h hspan hmin

/-- The first five bytes of the frame, and its last four. -/
theorem sameInputs.rxByte_eq_of_ends {i : Nat} (hi : i < 5 ∨ i = rxN s.regs - 1 ∨ i = rxN s.regs - 2 ∨
    i = rxN s.regs - 3 ∨ i = rxN s.regs - 4) : rxByte s i = rxByte t i := by
  have hmf := minFrame_eq s.regs
  have hfw := fieldWidth_pos s.regs
  exact h.rxByte_eq hspan (by omega)

theorem sameInputs.rxStart_eq : rxStart s = rxStart t := by
  unfold rxStart
  rw [h.rxByte_eq_of_ends hspan hmin (by omega), h.rxByte_eq_of_ends hspan hmin (i := 1) (by omega)]

theorem sameInputs.rxStop_eq : rxStop s = rxStop t := by
  unfold rxStop
  rw [← h.regs_eq, h.rxByte_eq_of_ends hspan hmin (i := rxN s.regs - 2) (by omega),
    h.rxByte_eq_of_ends hspan hmin (i := rxN s.regs - 1) (by omega)]

theorem sameInputs.rxDeclared_eq : rxDeclared s = rxDeclared t := by
  unfold rxDeclared
  rw [← h.regs_eq, h.rxByte_eq_of_ends hspan hmin (i := 3) (by omega),
    h.rxByte_eq_of_ends hspan hmin (i := 4) (by omega)]

theorem sameInputs.rxReceived_eq : rxReceived s = rxReceived t := by
  unfold rxReceived
  rw [← h.regs_eq, h.rxByte_eq_of_ends hspan hmin (i := rxN s.regs - 3) (by omega),
    h.rxByte_eq_of_ends hspan hmin (i := rxN s.regs - 4) (by omega)]

theorem sameInputs.rxCalc_eq : rxCalc s = rxCalc t := by
  have hmf := minFrame_eq s.regs
  have hfw := fieldWidth_pos s.regs
  unfold rxCalc rxSpan
  rw [← h.regs_eq, h.memRead_eq (by omega)]

theorem sameInputs.rxResult_eq : rxByte s (resultAt s.regs) = rxByte t (resultAt s.regs) :=
  h.rxByte_eq hspan (Nat.lt_of_lt_of_le (resultAt_lt_minFrame s.regs) hmin)

theorem sameInputs.extractData : sameInputs (extractData s) (extractData t) := by
  unfold Machine.extractData
  rw [← h.regs_eq, h.rxByte_eq_of_ends hspan hmin (i := 2) (by omega), h.rxResult_eq hspan hmin,
    h.rxDeclared_eq hspan hmin, h.rxReceived_eq hspan hmin, h.rxCalc_eq hspan hmin]
  exact h.withRegs _

end Frame

theorem sameResult_execParse (h : sameInputs s t) : sameResult (execParse s) (execParse t) := by
  unfold execParse
  rw [← h.regs_eq]
  refine sameResult_checkSpan h fun hspan => ?_
  refine sameResult_guard h fun hlen => ?_
  have hmin : minFrame s.regs ≤ rxN s.regs := Nat.le_of_not_lt hlen
  rw [h.rxStart_eq hspan hmin, h.rxStop_eq hspan hmin, h.rxCalc_eq hspan hmin, h.rxReceived_eq hspan hmin,
    h.rxByte_eq_of_ends hspan hmin (i := 2) (by omega), h.rxResult_eq hspan hmin, h.rxDeclared_eq hspan hmin]
  refine sameResult_guard h fun _ => ?_
  refine sameResult_guard h fun _ => ?_
  refine sameResult_guard h fun _ => ?_
  refine sameResult_guard h fun _ => ?_
  refine sameResult_guard h fun _ => ?_
  refine sameResult_guard h fun _ => ?_
  exact sameResult_completed (h.extractData hspan hmin)

/-! ## The commands that read registers only -/

theorem sameResult_execAccClr (h : sameInputs s t) : sameResult (execAccClr s) (execAccClr t) := by
  unfold execAccClr
  rw [h.regs_eq]
  exact sameResult_completed (h.withRegs _)

theorem sameResult_execAccFeed (h : sameInputs s t) : sameResult (execAccFeed s) (execAccFeed t) := by
  unfold execAccFeed
  rw [h.regs_eq]
  exact sameResult_checkMax h _ _ (sameResult_accumulated h _ _)

/-- PACK_TBL and JOIN16: both arguments are checked against one maximum, and RES0 is a function of the registers. -/
theorem sameResult_twoArgsToRes0 (h : sameInputs s t) (max : Nat) (f : Regs → Word) :
    sameResult (checkMax s max s.regs.arg0 (checkMax s max s.regs.arg1 (withRes0 s (f s.regs))))
      (checkMax t max t.regs.arg0 (checkMax t max t.regs.arg1 (withRes0 t (f t.regs)))) := by
  rw [h.regs_eq]
  exact sameResult_checkMax h _ _ (sameResult_checkMax h _ _ (sameResult_withRes0 h _))

/-- UNPACK_TBL, SPLIT16 and ATT_DEC: ARG0 is checked, and RES0 and RES1 are functions of the registers. -/
theorem sameResult_argToRes (h : sameInputs s t) (max : Nat) (f g : Regs → Word) :
    sameResult (checkMax s max s.regs.arg0 (withRes s (f s.regs) (g s.regs)))
      (checkMax t max t.regs.arg0 (withRes t (f t.regs) (g t.regs))) := by
  rw [h.regs_eq]
  exact sameResult_checkMax h _ _ (sameResult_withRes h _ _)

/-- PUT16LE and PUT16BE: the span and then the value are checked, and the bytes come from ARG1. -/
theorem sameResult_store16 (h : sameInputs s t) (bytes : Word → List Byte) :
    sameResult
      (checkSpan s s.regs.arg0.toNat 2 (checkMax s 0xFFFF s.regs.arg1
        (completed (memWrite s s.regs.arg0.toNat (bytes s.regs.arg1)))))
      (checkSpan t t.regs.arg0.toNat 2 (checkMax t 0xFFFF t.regs.arg1
        (completed (memWrite t t.regs.arg0.toNat (bytes t.regs.arg1))))) := by
  rw [h.regs_eq]
  exact sameResult_checkSpan h fun _ => sameResult_checkMax h _ _ (sameResult_completed (h.memWrite _ _))

theorem sameResult_execPut32le (h : sameInputs s t) : sameResult (execPut32le s) (execPut32le t) := by
  unfold execPut32le
  rw [h.regs_eq]
  exact sameResult_checkSpan h fun _ => sameResult_completed (h.memWrite _ _)

theorem sameResult_execAttEnc (h : sameInputs s t) : sameResult (execAttEnc s) (execAttEnc t) := by
  unfold execAttEnc
  rw [h.regs_eq]
  exact sameResult_withRes h _ _

theorem sameResult_execScale (h : sameInputs s t) : sameResult (execScale s) (execScale t) := by
  unfold execScale
  rw [h.regs_eq]
  exact sameResult_guard h fun _ => sameResult_withRes h _ _

theorem sameResult_execUnscale (h : sameInputs s t) : sameResult (execUnscale s) (execUnscale t) := by
  unfold execUnscale
  rw [h.regs_eq]
  exact sameResult_guard h fun _ => sameResult_withRes0 h _

end Snapshot

/-- Settles O45: each command is made of shared operations that give the same result from the same inputs, and reads BUF
only inside a span it has checked. -/
theorem commandsDependOnlyOnTheSnapshot : Obligations.CommandsDependOnlyOnTheSnapshot := by
  unfold Obligations.CommandsDependOnlyOnTheSnapshot
  intro i s t h
  change sameResult (exec i s) (exec i t)
  cases i with
  | nop => exact sameResult_completed h
  | sreset => exact sameResult_completed (h.withRegs _)
  | xor8 => exact sameResult_spanToRes0 h (·.arg1.toNat) fun _ bs => (xor8 bs).setWidth 32
  | crc16 => exact sameResult_spanToRes0 h (·.arg1.toNat) fun r bs => (crcOf r bs).setWidth 32
  | accClr => exact sameResult_execAccClr h
  | accFeed => exact sameResult_execAccFeed h
  | accSpan => exact sameResult_execAccSpan h
  | packTbl => exact sameResult_twoArgsToRes0 h 15 fun r => (r.arg0 <<< 4) ||| r.arg1
  | unpackTbl =>
    exact sameResult_argToRes h 0xFF (fun r => (r.arg0.extractLsb' 4 4).setWidth 32)
      fun r => (r.arg0.extractLsb' 0 4).setWidth 32
  | split16 =>
    exact sameResult_argToRes h 0xFFFF (fun r => (byteOf r.arg0 0).setWidth 32)
      fun r => (byteOf r.arg0 1).setWidth 32
  | join16 => exact sameResult_twoArgsToRes0 h 0xFF fun r => (r.arg1 <<< 8) ||| r.arg0
  | put16le => exact sameResult_store16 h (leBytes · 2)
  | get16le => exact sameResult_spanToRes0 h (fun _ => 2) fun _ => leWord
  | put32le => exact sameResult_execPut32le h
  | get32le => exact sameResult_spanToRes0 h (fun _ => 4) fun _ => leWord
  | put16be => exact sameResult_store16 h (beBytes · 2)
  | get16be => exact sameResult_spanToRes0 h (fun _ => 2) fun _ => beWord
  | attEnc => exact sameResult_execAttEnc h
  | attDec =>
    exact sameResult_argToRes h 0xFF (fun r => u32 (r.arg0.toNat * 10))
      fun r => if r.arg0.toNat = 255 then flagSentinel else 0
  | scale => exact sameResult_execScale h
  | unscale => exact sameResult_execUnscale h
  | build => exact sameResult_execBuild h
  | buildRec => exact sameResult_execBuildRec h
  | parse => exact sameResult_execParse h

/-! ## The opcode of a command word (30_encoding.md R82) -/

/-- The table and R82's list name the same opcode bytes. -/
theorem decodeOpcode_isSome_eq : ∀ op : Byte, (decodeOpcode op).isSome = opcodeDefined op := by decide

theorem opcodeDefined_of_decode {w : Word} {i : Instr} (h : decode w = .ok i) :
    opcodeDefined (opcodeField w) = true := by
  unfold decode at h
  split at h
  · cases h
  · split at h
    · next j hj => rw [← decodeOpcode_isSome_eq, hj, Option.isSome_some]
    · cases h

/-! ## What the invariant depends on -/

/-- t agrees with s on everything the invariant speaks of. -/
structure AgreesOnInv (s t : State) : Prop where
  cfg : t.cfg = s.cfg
  buf : t.buf = s.buf
  errCode : t.regs.status.errCode = s.regs.status.errCode
  lastOp : t.regs.status.lastOp = s.regs.status.lastOp
  errExp : t.regs.errExp = s.regs.errExp
  errAct : t.regs.errAct = s.regs.errAct
  txLen : t.regs.txLen = s.regs.txLen
  dataOff : t.regs.dataOff = s.regs.dataOff
  dataLen : t.regs.dataLen = s.regs.dataLen

theorem Inv.of_agrees {s t : State} (h : Inv s) (ha : AgreesOnInv s t) : Inv t where
  params := by rw [ha.cfg]; exact h.params
  buf := by rw [ha.cfg, ha.buf]; exact h.buf
  code := by rw [ha.errCode]; exact h.code
  clean := by rw [ha.errCode, ha.errExp, ha.errAct]; exact h.clean
  lastOp := by rw [ha.errCode, ha.lastOp]; exact h.lastOp
  frame := by rw [ha.cfg, ha.txLen]; exact h.frame
  slice := by rw [ha.cfg, ha.dataOff, ha.dataLen]; exact h.slice

theorem Inv.takeTurn {s : State} (h : Inv s) : Inv (takeTurn s) :=
  h.of_agrees ⟨rfl, rfl, rfl, rfl, rfl, rfl, rfl, rfl, rfl⟩

theorem Inv.reply {s : State} (h : Inv s) (r : Reply) : Inv (reply r s) :=
  h.of_agrees ⟨rfl, rfl, rfl, rfl, rfl, rfl, rfl, rfl, rfl⟩

theorem Inv.withHost {s : State} (h : Inv s) (accesses : List HostAccess) : Inv { s with host := accesses } :=
  h.of_agrees ⟨rfl, rfl, rfl, rfl, rfl, rfl, rfl, rfl, rfl⟩

theorem Inv.issue {s : State} (h : Inv s) (v : Word) : Inv (issue v s) :=
  h.of_agrees ⟨rfl, rfl, rfl, rfl, rfl, rfl, rfl, rfl, rfl⟩

/-- A reset keeps the parameters and puts everything else at values with the invariant. -/
theorem Inv.hardReset {s : State} (h : Inv s) : Inv (hardReset s) where
  params := h.params
  buf := rfl
  code := ⟨Nat.zero_le _, nofun⟩
  clean := fun _ => ⟨rfl, rfl⟩
  lastOp := fun _ => rfl
  frame := Nat.zero_le _
  slice := Nat.zero_le _

/-! ## A host access keeps the invariant -/

/-- A span written inside BUF keeps it. -/
theorem Inv.memWrite {s : State} (h : Inv s) {a : Nat} {bs : List Byte} (hspan : a + bs.length ≤ s.cfg.bufSize) :
    Inv (memWrite s a bs) :=
  { h with buf := Memory.wf_putList _ _ _ _ hspan h.buf }

/-- No host write reaches a register the invariant speaks of: they are RO, and STATUS clears DONE and ERR only
(10_state.md R24, R26, R41, R43). -/
theorem agreesOnInv_regsWrite (s : State) (reg : Reg) (v : Word) :
    AgreesOnInv s { s with regs := regsWrite s.regs reg v } := by
  cases reg <;> exact ⟨rfl, rfl, rfl, rfl, rfl, rfl, rfl, rfl, rfl⟩

theorem Inv.regWrite {s : State} (h : Inv s) (reg : Reg) (v : Word) : Inv (regWrite s reg v) := by
  unfold Machine.regWrite
  split
  · exact h.issue v
  · exact h.of_agrees (agreesOnInv_regsWrite s reg v)

@[simp] theorem leBytes_length (v : Word) (n : Nat) : (leBytes v n).length = n := by simp [leBytes]

@[simp] theorem beBytes_length (v : Word) (n : Nat) : (beBytes v n).length = n := by simp [beBytes]

/-- An admitted BUF access lies in BUF (20_memory.md R63). -/
theorem add_widthBytes_le_of_busTarget {size off a : Nat} {w : Width} (h : busTarget size off w = .ok (.buf a)) :
    a + widthBytes w ≤ size := by
  unfold busTarget at h
  split_ifs at h with hreg hword halign hbuf halign hend
  · cases h
  · simp only [Except.ok.injEq, Target.buf.injEq] at h
    omega

theorem Inv.busWrite {s : State} (h : Inv s) {off : Nat} {t : Target} {w : Width}
    (ht : busTarget s.cfg.bufSize off w = .ok t) (v : Word) : Inv (busWrite s t w v) := by
  match t with
  | .reg (some reg) => exact h.regWrite reg v
  | .reg none => exact h
  | .buf a => exact h.memWrite (by rw [leBytes_length]; exact add_widthBytes_le_of_busTarget ht)

/-! ## A completion keeps the invariant -/

/-- The invariant without STATUS and the error registers: what a command's outputs must meet before it completes. -/
structure OutputsFit (s : State) : Prop where
  params : s.cfg.wf = true
  buf : Memory.wf s.cfg.bufSize s.buf = true
  frame : s.regs.txLen.toNat ≤ s.cfg.bufSize
  slice : s.regs.dataOff.toNat + s.regs.dataLen.toNat ≤ s.cfg.bufSize

theorem Inv.outputsFit {s : State} (h : Inv s) : OutputsFit s := ⟨h.params, h.buf, h.frame, h.slice⟩

theorem OutputsFit.memWrite {s : State} (h : OutputsFit s) {a : Nat} {bs : List Byte}
    (hspan : a + bs.length ≤ s.cfg.bufSize) : OutputsFit (memWrite s a bs) :=
  { h with buf := Memory.wf_putList _ _ _ _ hspan h.buf }

/-- The data slice of an accepted response ends before the checksum of a frame that lies in BUF. -/
theorem Inv.outputsFit_extractData {s : State} (h : Inv s)
    (hspan : s.regs.rxOff.toNat + rxN s.regs ≤ s.cfg.bufSize)
    (hmin : minFrame s.regs ≤ rxN s.regs) : OutputsFit (extractData s) := by
  refine ⟨h.params, h.buf, h.frame, ?_⟩
  have hmf : minFrame s.regs = resultAt s.regs + 1 + fieldWidth s.regs + 2 := rfl
  calc (BitVec.ofNat 16 (s.regs.rxOff.toNat + resultAt s.regs + 1)).toNat +
        (BitVec.ofNat 16 (rxN s.regs - resultAt s.regs - 3 - fieldWidth s.regs)).toNat
    _ ≤ (s.regs.rxOff.toNat + resultAt s.regs + 1) + (rxN s.regs - resultAt s.regs - 3 - fieldWidth s.regs) :=
        Nat.add_le_add (Nat.mod_le _ _) (Nat.mod_le _ _)
    _ ≤ s.cfg.bufSize := by omega

/-- `complete()` sets STATUS and the error registers as the invariant asks (60_exceptions.md R252). -/
theorem OutputsFit.inv_complete {s : State} (h : OutputsFit s) (hop : opcodeDefined (lastOpOf s) = true) :
    Inv (complete s) where
  params := h.params
  buf := h.buf
  code := ⟨Nat.zero_le _, nofun⟩
  clean := fun _ => ⟨rfl, rfl⟩
  lastOp := fun _ => hop
  frame := h.frame
  slice := h.slice

/-- R255's numbers: from 1 to 10, 10 for IllegalCommand, and 4 for the reserved TransportError. -/
theorem errorCode_range (e : ErrorKind) : errorCode e ≠ 0 ∧ (errorCode e).toNat ≤ 10 ∧
    (e ≠ .transportError → errorCode e ≠ 4) ∧ (errorCode e ≠ 10 → e ≠ .illegalCommand) := by
  cases e <;> decide

theorem Inv.raise {s : State} (h : Inv s) {e : ErrorKind} (x a : Word) (he : e ≠ .transportError)
    (hop : e ≠ .illegalCommand → opcodeDefined (lastOpOf s) = true) : Inv (raise e x a s) := by
  obtain ⟨hzero, hle, hfour, hten⟩ := errorCode_range e
  exact { params := h.params, buf := h.buf, code := ⟨hle, hfour he⟩, clean := fun h₀ => absurd h₀ hzero
          lastOp := fun h₁₀ => hop (hten h₁₀), frame := h.frame, slice := h.slice }

/-! ## Results that keep the invariant: one rule per shared operation -/

/-- Whatever next state is answered has the invariant. -/
def keepsInv (x : Result) : Prop := ∀ t, x = .next t → Inv t

theorem keepsInv_next {t : State} (h : Inv t) : keepsInv (.next t) := fun _ heq => by cases heq; exact h

theorem keepsInv_fault (e : Fault) : keepsInv (.fault e) := fun _ heq => by cases heq

theorem keepsInv_ite {p : Prop} [Decidable p] {x y : Result} (hpos : p → keepsInv x) (hneg : ¬p → keepsInv y) :
    keepsInv (if p then x else y) := by
  split
  · next hp => exact hpos hp
  · next hp => exact hneg hp

section Command

variable {s : State} (h : Inv s) (hop : opcodeDefined (lastOpOf s) = true)
include h hop

theorem keepsInv_raised {e : ErrorKind} (x a : Word) (he : e ≠ .transportError) : keepsInv (raised e x a s) :=
  keepsInv_next (h.raise x a he fun _ => hop)

/-- A check of a command's own: what follows may use that it passed. -/
theorem keepsInv_guard {p : Prop} [Decidable p] {e : ErrorKind} {x a : Word} {go : Result} (he : e ≠ .transportError)
    (hgo : ¬p → keepsInv go) : keepsInv (if p then raised e x a s else go) :=
  keepsInv_ite (fun _ => keepsInv_raised h hop x a he) hgo

/-- What follows a span check may use that the span lies in BUF. -/
theorem keepsInv_checkSpan {off len : Nat} {go : Result} (hgo : off + len ≤ s.cfg.bufSize → keepsInv go) :
    keepsInv (checkSpan s off len go) :=
  keepsInv_ite (fun hspan => hgo (of_decide_eq_true hspan)) fun _ => keepsInv_raised h hop _ _ nofun

theorem keepsInv_checkMax {max : Nat} {v : Word} {go : Result} (hgo : keepsInv go) :
    keepsInv (checkMax s max v go) :=
  keepsInv_ite (fun _ => hgo) fun _ => keepsInv_raised h hop _ _ nofun

/-- A success whose outputs are no register the invariant speaks of. -/
theorem keepsInv_completed_withRegs (r : Regs) (htx : r.txLen = s.regs.txLen) (hoff : r.dataOff = s.regs.dataOff)
    (hlen : r.dataLen = s.regs.dataLen) : keepsInv (completed { s with regs := r }) := by
  refine keepsInv_next (OutputsFit.inv_complete ⟨h.params, h.buf, ?_, ?_⟩ hop)
  · rw [htx]; exact h.frame
  · rw [hoff, hlen]; exact h.slice

theorem keepsInv_withRes0 (r : Word) : keepsInv (withRes0 s r) :=
  keepsInv_completed_withRegs h hop _ rfl rfl rfl

theorem keepsInv_withRes (r q : Word) : keepsInv (withRes s r q) :=
  keepsInv_completed_withRegs h hop _ rfl rfl rfl

theorem keepsInv_accumulated (c : Half) (x : Byte) : keepsInv (accumulated s c x) :=
  keepsInv_completed_withRegs h hop _ rfl rfl rfl

theorem keepsInv_completed_memWrite {a : Nat} {bs : List Byte} (hspan : a + bs.length ≤ s.cfg.bufSize) :
    keepsInv (completed (memWrite s a bs)) :=
  keepsInv_next ((h.outputsFit.memWrite hspan).inv_complete hop)

/-- The frame written lies in BUF, and so TX_LEN, even reduced to 16 bits, is at most BUF_SIZE. -/
theorem keepsInv_emitFrame (n : Nat) (payload : List Byte)
    (hlen : n = fieldWidth s.regs + tableWidth s.regs + payload.length) : keepsInv (emitFrame s n payload) := by
  unfold emitFrame
  refine keepsInv_guard h hop nofun fun _ => ?_
  refine keepsInv_guard h hop nofun fun _ => ?_
  refine keepsInv_checkSpan h hop fun hspan => keepsInv_next (OutputsFit.inv_complete (OutputsFit.memWrite ?_ ?_) hop)
  · refine ⟨h.params, h.buf, ?_, h.slice⟩
    calc (BitVec.ofNat 16 (frameOverhead s.regs + n)).toNat
      _ ≤ frameOverhead s.regs + n := Nat.mod_le _ _
      _ ≤ s.cfg.bufSize := by omega
  · rw [composeFrame_length, ← hlen]
    exact hspan

theorem keepsInv_execBuild : keepsInv (execBuild s) := by
  unfold execBuild
  refine keepsInv_guard h hop nofun fun _ => ?_
  exact keepsInv_checkSpan h hop fun _ => keepsInv_emitFrame h hop _ _ (by rw [memRead_length, buildLength])

theorem keepsInv_execBuildRec : keepsInv (execBuildRec s) := by
  unfold execBuildRec
  refine keepsInv_guard h hop nofun fun hlong => ?_
  refine keepsInv_guard h hop nofun fun _ => ?_
  refine keepsInv_guard h hop nofun fun _ => ?_
  refine keepsInv_checkSpan h hop fun _ => keepsInv_checkSpan h hop fun _ => keepsInv_checkSpan h hop fun _ => ?_
  have hwidth : fieldWidth s.regs = 2 := by simpa [fieldWidth] using hlong
  exact keepsInv_emitFrame h hop _ _ (by rw [recordPayload_length, buildRecLength, hwidth])

theorem keepsInv_execParse : keepsInv (execParse s) := by
  unfold execParse
  refine keepsInv_checkSpan h hop fun hspan => ?_
  refine keepsInv_guard h hop nofun fun hlen => ?_
  refine keepsInv_guard h hop nofun fun _ => ?_
  refine keepsInv_guard h hop nofun fun _ => ?_
  refine keepsInv_guard h hop nofun fun _ => ?_
  refine keepsInv_guard h hop nofun fun _ => ?_
  refine keepsInv_guard h hop nofun fun _ => ?_
  refine keepsInv_guard h hop nofun fun _ => ?_
  exact keepsInv_next ((h.outputsFit_extractData hspan (Nat.le_of_not_lt hlen)).inv_complete hop)

theorem keepsInv_exec (i : Instr) : keepsInv (exec i s) := by
  cases i with
  | nop => exact keepsInv_completed_withRegs h hop s.regs rfl rfl rfl
  | sreset => exact keepsInv_next (OutputsFit.inv_complete ⟨h.params, h.buf, Nat.zero_le _, Nat.zero_le _⟩ hop)
  | xor8 => exact keepsInv_checkSpan h hop fun _ => keepsInv_withRes0 h hop _
  | crc16 => exact keepsInv_checkSpan h hop fun _ => keepsInv_withRes0 h hop _
  | accClr => exact keepsInv_completed_withRegs h hop _ rfl rfl rfl
  | accFeed => exact keepsInv_checkMax h hop (keepsInv_accumulated h hop _ _)
  | accSpan => exact keepsInv_checkSpan h hop fun _ => keepsInv_accumulated h hop _ _
  | packTbl => exact keepsInv_checkMax h hop (keepsInv_checkMax h hop (keepsInv_withRes0 h hop _))
  | unpackTbl => exact keepsInv_checkMax h hop (keepsInv_withRes h hop _ _)
  | split16 => exact keepsInv_checkMax h hop (keepsInv_withRes h hop _ _)
  | join16 => exact keepsInv_checkMax h hop (keepsInv_checkMax h hop (keepsInv_withRes0 h hop _))
  | put16le =>
    exact keepsInv_checkSpan h hop fun hspan => keepsInv_checkMax h hop (keepsInv_completed_memWrite h hop (by simpa))
  | get16le => exact keepsInv_checkSpan h hop fun _ => keepsInv_withRes0 h hop _
  | put32le => exact keepsInv_checkSpan h hop fun hspan => keepsInv_completed_memWrite h hop (by simpa)
  | get32le => exact keepsInv_checkSpan h hop fun _ => keepsInv_withRes0 h hop _
  | put16be =>
    exact keepsInv_checkSpan h hop fun hspan => keepsInv_checkMax h hop (keepsInv_completed_memWrite h hop (by simpa))
  | get16be => exact keepsInv_checkSpan h hop fun _ => keepsInv_withRes0 h hop _
  | attEnc => exact keepsInv_withRes h hop _ _
  | attDec => exact keepsInv_checkMax h hop (keepsInv_withRes h hop _ _)
  | scale => exact keepsInv_guard h hop nofun fun _ => keepsInv_withRes h hop _ _
  | unscale => exact keepsInv_guard h hop nofun fun _ => keepsInv_withRes0 h hop _
  | build => exact keepsInv_execBuild h hop
  | buildRec => exact keepsInv_execBuildRec h hop
  | parse => exact keepsInv_execParse h hop

end Command

/-! ## Every turn keeps the invariant -/

/-- An illegal word leaves its own opcode byte in LASTOP, which the invariant allows under code 10. -/
theorem keepsInv_execIllegal {s : State} (h : Inv s) (e : DecodeReject) : keepsInv (execIllegal e s) := by
  obtain ⟨act, heq⟩ := execIllegal_eq e s
  rw [heq]
  exact keepsInv_next (h.raise 0 act nofun fun hne => absurd rfl hne)

theorem keepsInv_engineTurn {s : State} (h : Inv s) : keepsInv (engineTurn s) := by
  rcases engineTurn_cases s with ⟨-, heq⟩ | ⟨i, -, hdec, heq⟩ | ⟨e, -, -, heq⟩ <;> rw [heq]
  · exact keepsInv_next h
  · exact keepsInv_exec h (opcodeDefined_of_decode hdec) i
  · exact keepsInv_execIllegal h e

theorem keepsInv_hostAccess {s : State} (h : Inv s) (a : HostAccess) : keepsInv (hostAccess s a) := by
  rcases hostAccess_cases s a with ⟨e, -, heq⟩ | ⟨t, ht, ⟨-, heq⟩ | ⟨v, -, heq⟩⟩ <;> rw [heq]
  · exact keepsInv_fault e
  · exact keepsInv_next (h.reply _)
  · exact keepsInv_next ((h.busWrite ht v).reply _)

theorem keepsInv_hostTurn {s : State} (h : Inv s) : keepsInv (hostTurn s) := by
  rcases hostTurn_cases s with ⟨-, heq⟩ | ⟨a, rest, -, -, heq⟩ | ⟨a, rest, -, -, heq⟩ <;> rw [heq]
  · exact keepsInv_next h
  · exact keepsInv_next h
  · exact keepsInv_hostAccess (h.withHost rest) a

/-- Settles O48: whosever turn it is, what that agent answers keeps the invariant. -/
theorem stepKeepsTheInvariant : Obligations.StepKeepsTheInvariant := by
  unfold Obligations.StepKeepsTheInvariant
  intro s t h hstep
  rcases step_cases s with ⟨-, heq⟩ | ⟨-, heq⟩ | ⟨-, heq⟩ <;> rw [heq] at hstep
  · exact keepsInv_hostTurn h.takeTurn t hstep
  · exact keepsInv_engineTurn h.takeTurn t hstep
  · exact keepsInv_next h.takeTurn.hardReset t hstep

end Sys2Proof.Machine
end

section
/-! SUPPORT. The state (10_state.md): what a command writes (R51), the register map as the host reads and writes it (R21
to R46), the stall (R47), and which accesses fault (20_memory.md R62, R63). -/

namespace Sys2Proof.Machine

/-! ## The reset state -/

/-- Settles O49: every field of the reset state meets its clause. -/
theorem resetHasTheInvariant : Obligations.ResetHasTheInvariant where
  params := rfl
  buf := Memory.wf_reset
  code := ⟨Nat.zero_le _, nofun⟩
  clean := fun _ => ⟨rfl, rfl⟩
  lastOp := fun _ => rfl
  frame := Nat.zero_le _
  slice := Nat.zero_le _

/-! ## What a command writes: the registers and BUF, and these whatever the host's lists are -/

/-- s with other lists of the host's accesses and of their answers. -/
def State.withLists (s : State) (accesses : List HostAccess) (answers : List Reply) : State :=
  { s with host := accesses, replies := answers }

/-- Both results are next states that differ from s, and from t, in the registers and in BUF's written bytes alone, and
in these in the same way; without `stores` BUF's written bytes are those of s. -/
def writesAlike (stores : Bool) (s t : State) (x y : Result) : Prop :=
  ∃ r b, x = .next { s with regs := r, buf := b } ∧ y = .next { t with regs := r, buf := b } ∧
    (stores = false → b = s.buf)

section Command

variable {stores : Bool} {s : State} {accesses : List HostAccess} {answers : List Reply}

theorem writesAlike_completed (r : Regs) : writesAlike stores s (s.withLists accesses answers)
    (completed { s with regs := r }) (completed { s.withLists accesses answers with regs := r }) :=
  ⟨_, _, rfl, rfl, fun _ => rfl⟩

theorem writesAlike_completed_memWrite (r : Regs) (a : Nat) (bs : List Byte) :
    writesAlike true s (s.withLists accesses answers) (completed (memWrite { s with regs := r } a bs))
      (completed (memWrite { s.withLists accesses answers with regs := r } a bs)) :=
  ⟨_, _, rfl, rfl, nofun⟩

theorem writesAlike_raised (e : ErrorKind) (x a : Word) : writesAlike stores s (s.withLists accesses answers)
    (raised e x a s) (raised e x a (s.withLists accesses answers)) :=
  ⟨_, _, rfl, rfl, fun _ => rfl⟩

/-- A check of a command's own. -/
theorem writesAlike_guard {c : Prop} [Decidable c] {e : ErrorKind} {x a : Word} {go go' : Result}
    (hgo : writesAlike stores s (s.withLists accesses answers) go go') :
    writesAlike stores s (s.withLists accesses answers) (if c then raised e x a s else go)
      (if c then raised e x a (s.withLists accesses answers) else go') := by
  split
  · exact writesAlike_raised ..
  · exact hgo

theorem writesAlike_checkSpan {off len : Nat} {go go' : Result}
    (hgo : writesAlike stores s (s.withLists accesses answers) go go') :
    writesAlike stores s (s.withLists accesses answers) (checkSpan s off len go)
      (checkSpan (s.withLists accesses answers) off len go') := by
  have hspan : spanOk (s.withLists accesses answers) off len = spanOk s off len := rfl
  unfold checkSpan
  rw [hspan]
  split
  · exact hgo
  · exact writesAlike_raised ..

theorem writesAlike_checkMax {max : Nat} {v : Word} {go go' : Result}
    (hgo : writesAlike stores s (s.withLists accesses answers) go go') :
    writesAlike stores s (s.withLists accesses answers) (checkMax s max v go)
      (checkMax (s.withLists accesses answers) max v go') := by
  unfold checkMax
  split
  · exact hgo
  · exact writesAlike_raised ..

theorem writesAlike_emitFrame (n : Nat) (payload : List Byte) : writesAlike true s (s.withLists accesses answers)
    (emitFrame s n payload) (emitFrame (s.withLists accesses answers) n payload) :=
  writesAlike_guard (writesAlike_guard (writesAlike_checkSpan (writesAlike_completed_memWrite ..)))

/-- Every command answers a next state, in which the registers and BUF alone are new, the host's lists have no part, and
BUF is new only after a command with a BUF output (30_encoding.md R81). -/
theorem writesAlike_exec (i : Instr) :
    writesAlike (storesBuf i) s (s.withLists accesses answers) (exec i s) (exec i (s.withLists accesses answers)) := by
  cases i with
  | nop => exact writesAlike_completed s.regs
  | sreset => exact writesAlike_completed _
  | xor8 => exact writesAlike_checkSpan (writesAlike_completed _)
  | crc16 => exact writesAlike_checkSpan (writesAlike_completed _)
  | accClr => exact writesAlike_completed _
  | accFeed => exact writesAlike_checkMax (writesAlike_completed _)
  | accSpan => exact writesAlike_checkSpan (writesAlike_completed _)
  | packTbl => exact writesAlike_checkMax (writesAlike_checkMax (writesAlike_completed _))
  | unpackTbl => exact writesAlike_checkMax (writesAlike_completed _)
  | split16 => exact writesAlike_checkMax (writesAlike_completed _)
  | join16 => exact writesAlike_checkMax (writesAlike_checkMax (writesAlike_completed _))
  | put16le => exact writesAlike_checkSpan (writesAlike_checkMax (writesAlike_completed_memWrite s.regs _ _))
  | get16le => exact writesAlike_checkSpan (writesAlike_completed _)
  | put32le => exact writesAlike_checkSpan (writesAlike_completed_memWrite s.regs _ _)
  | get32le => exact writesAlike_checkSpan (writesAlike_completed _)
  | put16be => exact writesAlike_checkSpan (writesAlike_checkMax (writesAlike_completed_memWrite s.regs _ _))
  | get16be => exact writesAlike_checkSpan (writesAlike_completed _)
  | attEnc => exact writesAlike_completed _
  | attDec => exact writesAlike_checkMax (writesAlike_completed _)
  | scale => exact writesAlike_guard (writesAlike_completed _)
  | unscale => exact writesAlike_guard (writesAlike_completed _)
  | build => exact writesAlike_guard (writesAlike_checkSpan (writesAlike_emitFrame _ _))
  | buildRec =>
    exact writesAlike_guard <| writesAlike_guard <| writesAlike_guard <|
      writesAlike_checkSpan <| writesAlike_checkSpan <| writesAlike_checkSpan (writesAlike_emitFrame _ _)
  | parse =>
    exact writesAlike_checkSpan <| writesAlike_guard <| writesAlike_guard <| writesAlike_guard <|
      writesAlike_guard <| writesAlike_guard <| writesAlike_guard <| writesAlike_guard (writesAlike_completed _)

theorem writesAlike_execIllegal (e : DecodeReject) :
    writesAlike stores s (s.withLists accesses answers) (execIllegal e s)
      (execIllegal e (s.withLists accesses answers)) := by
  cases e <;> exact writesAlike_raised ..

/-- Whatever word PENDING holds, the engine completes it with a next state (60_exceptions.md R251). -/
theorem writesAlike_runPending :
    writesAlike true s (s.withLists accesses answers) (runPending s) (runPending (s.withLists accesses answers)) := by
  have hpend : (s.withLists accesses answers).pending = s.pending := rfl
  unfold runPending
  rw [hpend]
  cases decode s.pending with
  | ok i =>
    obtain ⟨r, b, hs, ht, -⟩ := writesAlike_exec (s := s) (accesses := accesses) (answers := answers) i
    exact ⟨r, b, hs, ht, nofun⟩
  | error e => exact writesAlike_execIllegal e

end Command

/-- Settles O7: the only new fields are the registers and BUF's written bytes, and the latter are new only after a
storing command. -/
theorem nonStoringCommandsKeepEveryByte : Obligations.NonStoringCommandsKeepEveryByte := by
  unfold Obligations.NonStoringCommandsKeepEveryByte
  intro i s t hstores hexec
  obtain ⟨r, b, hnext, -, hbuf⟩ := writesAlike_exec (s := s) (accesses := s.host) (answers := s.replies) i
  obtain rfl := hbuf hstores
  obtain rfl := Host.Outcome.next.inj (hexec.symm.trans hnext)
  exact ⟨rfl, bufByte_congr rfl rfl⟩

/-! ## The register map (10_state.md section 2): each offset and its register -/

/-- The map is dense and in the order of the registers' names: one word each. -/
theorem regAt_eq_some {off : Nat} {reg : Reg} (h : regAt off = some reg) : off = 4 * reg.ctorIdx := by
  unfold regAt at h
  split at h <;> cases h <;> rfl

theorem Reg.ctorIdx_lt (reg : Reg) : reg.ctorIdx < 44 := by cases reg <;> decide

theorem lt_and_aligned_of_regAt {off : Nat} (h : (regAt off).isSome = true) : off < 0x0B0 ∧ off % 4 = 0 := by
  obtain ⟨reg, hreg⟩ := Option.isSome_iff_exists.1 h
  have hoff := regAt_eq_some hreg
  have hidx := reg.ctorIdx_lt
  omega

/-- Above the map there is no register (R46). -/
theorem regAt_reserved {off : Nat} (h : 0x0B0 ≤ off) : regAt off = none :=
  Option.not_isSome_iff_eq_none.1 fun hsome => absurd (lt_and_aligned_of_regAt hsome).1 (Nat.not_lt.2 h)

/-- A host write to a register other than CMD changes what a read of that register answers, and of no other: no two
names share a register (R48). -/
theorem regRead_regsWrite (s : State) (reg reg' : Reg) (v : Word) :
    regRead { s with regs := regsWrite s.regs reg v } reg' =
      if reg' = reg then regRead { s with regs := regsWrite s.regs reg v } reg else regRead s reg' := by
  cases reg <;> cases reg' <;> rfl

/-- What a 32-bit host read of a register offset answers: the register there, or 0 (R46). -/
abbrev mapRead (s : State) (off : BitVec 17) : Word := busRead s (.reg (regAt off.toNat)) .word

/-- The effect of a 32-bit host write to a register offset. -/
abbrev mapWrite (s : State) (off : BitVec 17) (v : Word) : State := busWrite s (.reg (regAt off.toNat)) .word v

/-- An answer recorded changes nothing a register read answers. -/
theorem mapRead_reply (r : Reply) (s : State) (off : BitVec 17) : mapRead (reply r s) off = mapRead s off := by
  unfold mapRead
  cases regAt off.toNat <;> rfl

theorem mapRead_mapWrite_of_ne (s : State) {off off' : BitVec 17} (v : Word) (hcmd : regAt off.toNat ≠ some .cmd)
    (hne : off' ≠ off) : mapRead (mapWrite s off v) off' = mapRead s off' := by
  unfold mapRead mapWrite
  cases h : regAt off.toNat with
  | none => rfl
  | some reg =>
    cases h' : regAt off'.toNat with
    | none => rfl
    | some reg' =>
      have hreg' : reg' ≠ reg := by
        rintro rfl
        exact hne (BitVec.eq_of_toNat_eq ((regAt_eq_some h').trans (regAt_eq_some h).symm))
      have hreg : reg ≠ .cmd := fun heq => hcmd (h.trans (congrArg some heq))
      change regRead (regWrite s reg v) reg' = regRead s reg'
      rw [regWrite, if_neg hreg, regRead_regsWrite, if_neg hreg']

/-! ## The rows of the map, each list checked against the model row by row -/

theorem regAt_resetMap (c : Config) : ∀ q ∈ resetMap c, (regAt q.1.toNat).isSome = true :=
  List.map_inj_left.1 rfl

theorem regAt_rwFields : ∀ f ∈ rwFields, (regAt f.off.toNat).isSome = true := List.map_inj_left.1 rfl

theorem regAt_rwFields_ne_cmd : ∀ f ∈ rwFields, regAt f.off.toNat ≠ some .cmd := by decide

theorem regAt_roMap : ∀ off ∈ roMap, (regAt off.toNat).isSome = true := List.map_inj_left.1 rfl

theorem mapRead_rwFields (s : State) : ∀ f ∈ rwFields, mapRead s f.off = f.get s.regs := List.map_inj_left.1 rfl

theorem mapWrite_rwFields (s : State) (v : Word) :
    ∀ f ∈ rwFields, mapWrite s f.off v = { s with regs := f.set s.regs v } :=
  List.map_inj_left.1 rfl

theorem set_status_rwFields (r : Regs) (v : Word) : ∀ f ∈ rwFields, (f.set r v).status = r.status :=
  List.map_inj_left.1 rfl

theorem mapRead_roFields (s : State) : ∀ f ∈ roFields, mapRead s f.1 = f.2 s := List.map_inj_left.1 rfl

theorem mapWrite_roMap (s : State) (v : Word) : ∀ off ∈ roMap, mapWrite s off v = s := List.map_inj_left.1 rfl

/-- A register of n bits keeps the n low bits of what is written to it. -/
theorem and_two_pow_sub_one (v : Word) (n : Nat) (hn : n ≤ 32) :
    v &&& BitVec.ofNat 32 (2 ^ n - 1) = (v.setWidth n).setWidth 32 := by
  have hmask : 2 ^ n - 1 < 2 ^ 32 :=
    Nat.lt_of_lt_of_le (Nat.sub_lt (Nat.two_pow_pos n) Nat.one_pos) (Nat.pow_le_pow_right (by decide) hn)
  have hlow : v.toNat % 2 ^ n < 2 ^ 32 := Nat.lt_of_le_of_lt (Nat.mod_le _ _) v.isLt
  refine BitVec.eq_of_toNat_eq ?_
  rw [BitVec.toNat_and, BitVec.toNat_ofNat, Nat.mod_eq_of_lt hmask, Nat.and_two_pow_sub_one_eq_mod,
    BitVec.toNat_setWidth, BitVec.toNat_setWidth, Nat.mod_eq_of_lt hlow]

/-- An RW register reads back what was written to it, masked to the bits it uses (R21). -/
theorem mapRead_mapWrite_rwMap (s : State) (v : Word) :
    ∀ p ∈ rwMap, mapRead (mapWrite s p.1 v) p.1 = v &&& p.2 := by
  have h2 : v &&& 0x3 = (v.setWidth 2).setWidth 32 := and_two_pow_sub_one v 2 (by decide)
  have h3 : v &&& 0x7 = (v.setWidth 3).setWidth 32 := and_two_pow_sub_one v 3 (by decide)
  have h8 : v &&& 0xFF = (v.setWidth 8).setWidth 32 := and_two_pow_sub_one v 8 (by decide)
  have h16 : v &&& 0xFFFF = (v.setWidth 16).setWidth 32 := and_two_pow_sub_one v 16 (by decide)
  have h32 : v &&& 0xFFFFFFFF = v := BitVec.and_allOnes
  refine List.map_inj_left.1 ?_
  simp only [rwMap, List.map_cons, h2, h3, h8, h16, h32]
  rfl

/-! ## Host accesses to the register region -/

theorem busTarget_register {size off : Nat} (hlt : off < 0x1000) (halign : off % 4 = 0) :
    busTarget size off .word = .ok (.reg (regAt off)) := by
  unfold busTarget bufBase
  rw [if_pos hlt, if_neg (not_not.2 rfl), if_neg (not_not.2 halign)]

theorem hostAccess_register_read (s : State) {off : BitVec 17} (hlt : off.toNat < 0x1000)
    (halign : off.toNat % 4 = 0) :
    hostAccess s ⟨off, .word, .read⟩ = .next (reply (.data (mapRead s off)) s) := by
  unfold hostAccess
  rw [busTarget_register hlt halign]

theorem hostAccess_register_write (s : State) {off : BitVec 17} (v : Word) (hlt : off.toNat < 0x1000)
    (halign : off.toNat % 4 = 0) :
    hostAccess s ⟨off, .word, .write v⟩ = .next (reply .written (mapWrite s off v)) := by
  unfold hostAccess
  rw [busTarget_register hlt halign]

/-- A read of an offset of the map. -/
theorem hostAccess_read_of_regAt (s : State) {off : BitVec 17} (h : (regAt off.toNat).isSome = true) :
    hostAccess s ⟨off, .word, .read⟩ = .next (reply (.data (mapRead s off)) s) := by
  obtain ⟨hlt, halign⟩ := lt_and_aligned_of_regAt h
  exact hostAccess_register_read s (by omega) halign

/-- A write to an offset of the map. -/
theorem hostAccess_write_of_regAt (s : State) {off : BitVec 17} (v : Word) (h : (regAt off.toNat).isSome = true) :
    hostAccess s ⟨off, .word, .write v⟩ = .next (reply .written (mapWrite s off v)) := by
  obtain ⟨hlt, halign⟩ := lt_and_aligned_of_regAt h
  exact hostAccess_register_write s v (by omega) halign

theorem hostAccess_read_rwFields (s : State) {f : RwField} (hf : f ∈ rwFields) :
    hostAccess s ⟨f.off, .word, .read⟩ = .next (reply (.data (f.get s.regs)) s) := by
  rw [hostAccess_read_of_regAt s (regAt_rwFields f hf), mapRead_rwFields s f hf]

theorem hostAccess_write_rwFields (s : State) (v : Word) {f : RwField} (hf : f ∈ rwFields) :
    hostAccess s ⟨f.off, .word, .write v⟩ = .next (reply .written { s with regs := f.set s.regs v }) := by
  rw [hostAccess_write_of_regAt s v (regAt_rwFields f hf), mapWrite_rwFields s v f hf]

/-- Every row of rwMap is one of rwFields. -/
theorem exists_rwField {p : BitVec 17 × Word} (hp : p ∈ rwMap) : ∃ f ∈ rwFields, f.off = p.1 :=
  List.mem_map.1 (show p.1 ∈ rwFields.map RwField.off from List.mem_map_of_mem hp)

/-- Settles O50: rwFields names the register at each offset, and a write reaches no other row of the map. -/
theorem hostReadsBackWhatItWrote : Obligations.HostReadsBackWhatItWrote := by
  unfold Obligations.HostReadsBackWhatItWrote
  refine ⟨rfl, fun s v f hf => ⟨hostAccess_read_rwFields s hf, hostAccess_write_rwFields s v hf⟩, ?_⟩
  rintro s ⟨off, mask⟩ v hp
  obtain ⟨f, hf, rfl : f.off = off⟩ := exists_rwField hp
  have hwrite := mapWrite_rwFields s v f hf
  have hback : hostAccess (reply .written { s with regs := f.set s.regs v }) ⟨f.off, .word, .read⟩ =
      .next (reply (.data (v &&& mask)) (reply .written { s with regs := f.set s.regs v })) := by
    rw [hostAccess_read_of_regAt _ (regAt_rwFields f hf), mapRead_reply, ← hwrite,
      mapRead_mapWrite_rwMap s v _ hp]
  refine ⟨_, _, hostAccess_write_rwFields s v hf, hback, rfl, rfl, fun q hq hne => ?_, set_status_rwFields _ v f hf,
    rfl, rfl, rfl, rfl, rfl, rfl⟩
  have hsome := regAt_resetMap s.cfg q hq
  refine ⟨mapRead s q.1, hostAccess_read_of_regAt s hsome, ?_⟩
  rw [hostAccess_read_of_regAt _ hsome, mapRead_reply, ← hwrite,
    mapRead_mapWrite_of_ne s v (regAt_rwFields_ne_cmd f hf) hne]
  rfl

/-- A reserved offset reads 0 and ignores writes (R46). -/
theorem mapRead_reserved (s : State) {off : BitVec 17} (h : 0x0B0 ≤ off.toNat) : mapRead s off = 0 := by
  rw [mapRead, regAt_reserved h, busRead]

theorem mapWrite_reserved (s : State) {off : BitVec 17} (v : Word) (h : 0x0B0 ≤ off.toNat) : mapWrite s off v = s := by
  rw [mapWrite, regAt_reserved h, busWrite]

theorem fst_mem_roMap {f : BitVec 17 × (State → Word)} (hf : f ∈ roFields) : f.1 ∈ roMap :=
  show f.1 ∈ roFields.map Prod.fst from List.mem_map_of_mem hf

/-- Settles O51: roFields names what each RO offset reads, and no write to one, or to a reserved offset, has an
effect. -/
theorem readOnlyAndReservedOffsetsIgnoreWrites : Obligations.ReadOnlyAndReservedOffsetsIgnoreWrites := by
  unfold Obligations.ReadOnlyAndReservedOffsetsIgnoreWrites
  refine ⟨rfl, fun s f hf => ?_, fun s off v hoff => ?_, fun s off hge hlt halign => ?_⟩
  · rw [hostAccess_read_of_regAt s (regAt_roMap _ (fst_mem_roMap hf)), mapRead_roFields s f hf]
    rfl
  · rcases hoff with hro | ⟨hge, hlt, halign⟩
    · rw [hostAccess_write_of_regAt s v (regAt_roMap off hro), mapWrite_roMap s v off hro]
      rfl
    · rw [hostAccess_register_write s v hlt halign, mapWrite_reserved s v hge]
      rfl
  · rw [hostAccess_register_read s hlt halign, mapRead_reserved s hge]
    rfl

/-! ## STATUS and CMD (10_state.md R24, R25) -/

theorem toNat_append_eq_add {m n : Nat} (x : BitVec m) (y : BitVec n) :
    (x ++ y).toNat = x.toNat * 2 ^ n + y.toNat := by
  rw [BitVec.toNat_append, ← Nat.shiftLeft_add_eq_or_of_lt y.isLt, Nat.shiftLeft_eq]

/-- STATUS's fields at their places in the word (R24). -/
theorem toNat_statusWord (st : Status) : (statusWord st).toNat =
    (if st.busy then 1 else 0) + 2 * (if st.done then 1 else 0) + 4 * (if st.err then 1 else 0) +
      256 * st.errCode.toNat + 65536 * st.lastOp.toNat := by
  have hbit : ∀ b : Bool, (BitVec.ofBool b).toNat = if b then 1 else 0 := by decide
  simp only [statusWord, toNat_append_eq_add, hbit, BitVec.toNat_ofNat]
  omega

/-- Settles O52: STATUS's word by its fields, and the two rows of the map that are neither RW nor RO. -/
theorem statusReadsAndClearsByOneAndCmdIssues : Obligations.StatusReadsAndClearsByOneAndCmdIssues :=
  ⟨toNat_statusWord, fun s v =>
    ⟨hostAccess_read_of_regAt s (off := 0x008) rfl, hostAccess_write_of_regAt s (off := 0x008) v rfl,
      hostAccess_write_of_regAt s (off := 0x00C) v rfl, hostAccess_read_of_regAt s (off := 0x00C) rfl⟩⟩

/-! ## The host's turn (10_state.md R47) -/

theorem neverStalls_iff (a : HostAccess) :
    neverStalls a = true ↔ a.op = .read ∧ a.width = .word ∧ (a.off = 0x000 ∨ a.off = 0x008) := by
  simp [neverStalls, and_assoc]

theorem stalls_iff (s : State) (a : HostAccess) :
    stalls s a = true ↔ s.regs.status.busy = true ∧ neverStalls a = false := by
  simp [stalls]

theorem step_of_host_turn {s : State} (h : nextTurn s = .host) : step s = hostTurn (takeTurn s) := by
  rw [step, turnStep, h]

theorem step_of_engine_turn {s : State} (h : nextTurn s = .engine) : step s = engineTurn (takeTurn s) := by
  rw [step, turnStep, h]

/-- The host's turn with an access to be made. -/
theorem hostTurn_cons {s : State} {a : HostAccess} {rest : List HostAccess} (h : s.host = a :: rest) :
    hostTurn s = if stalls s a then .next s else hostAccess { s with host := rest } a := by
  rw [hostTurn, h]

theorem hostTurn_of_stalls {s : State} {a : HostAccess} {rest : List HostAccess} (h : s.host = a :: rest)
    (hstalls : stalls s a = true) : hostTurn s = .next s := by
  rw [hostTurn_cons h, if_pos hstalls]

theorem hostTurn_of_not_stalls {s : State} {a : HostAccess} {rest : List HostAccess} (h : s.host = a :: rest)
    (hstalls : ¬stalls s a = true) : hostTurn s = hostAccess { s with host := rest } a := by
  rw [hostTurn_cons h, if_neg hstalls]

/-- Settles O47: an access is held exactly when it stalls. -/
theorem otherAccessesStallWhileBusy : Obligations.OtherAccessesStallWhileBusy := by
  unfold Obligations.OtherAccessesStallWhileBusy
  intro s a rest hturn hhost
  rw [step_of_host_turn hturn, ← neverStalls_iff, Bool.not_eq_true]
  refine ⟨fun hbusy hnever => ?_, fun hperformed => hostTurn_of_not_stalls hhost fun hstalls => ?_⟩
  · exact hostTurn_of_stalls hhost ((stalls_iff _ a).2 ⟨hbusy, hnever⟩)
  · obtain ⟨hbusy, hnever⟩ := (stalls_iff _ a).1 hstalls
    rcases hperformed with hidle | hpoll
    · exact absurd hbusy (by rw [takeTurn_regs, hidle]; decide)
    · exact absurd hpoll (by rw [hnever]; decide)

/-! ## Which steps fault (20_memory.md R62, R63) -/

theorem widthBytes_pos (w : Width) : 0 < widthBytes w := by cases w <;> decide

theorem busTarget_of_admitted {size : Nat} {a : HostAccess} (h : admitted size a) :
    ∃ t, busTarget size a.off.toNat a.width = .ok t := by
  rcases h with ⟨hlt, hword, halign⟩ | ⟨hge, halign, hend⟩
  · exact ⟨_, by rw [hword]; exact busTarget_register hlt halign⟩
  · have hpos := widthBytes_pos a.width
    refine ⟨.buf (a.off.toNat - 0x1000), ?_⟩
    unfold busTarget bufBase
    rw [if_neg (Nat.not_lt.2 hge), if_pos (by omega), if_neg (not_not.2 halign), if_neg (Nat.not_lt.2 hend)]

/-- An access is performed, or is not admitted and faults. -/
theorem hostAccess_next_or_fault (s : State) (a : HostAccess) :
    (∃ t, hostAccess s a = .next t) ∨ (∃ e, hostAccess s a = .fault e ∧ ¬admitted s.cfg.bufSize a) := by
  rcases hostAccess_cases s a with ⟨e, htarget, heq⟩ | ⟨t, -, ⟨-, heq⟩ | ⟨v, -, heq⟩⟩
  · refine .inr ⟨e, heq, fun hadm => ?_⟩
    obtain ⟨t, hok⟩ := busTarget_of_admitted hadm
    cases htarget.symm.trans hok
  · exact .inl ⟨_, heq⟩
  · exact .inl ⟨_, heq⟩

theorem runPending_next (s : State) : ∃ t, runPending s = .next t := by
  obtain ⟨_, _, hnext, -, -⟩ := writesAlike_runPending (s := s) (accesses := s.host) (answers := s.replies)
  exact ⟨_, hnext⟩

theorem engineTurn_next (s : State) : ∃ t, engineTurn s = .next t := by
  unfold engineTurn
  split
  · exact runPending_next s
  · exact ⟨s, rfl⟩

/-- A step answers a next state, or faults at an access of the host that is made and not admitted. -/
theorem step_next_or_fault (s : State) :
    (∃ t, step s = .next t) ∨ (∃ e, step s = .fault e ∧ nextTurn s = .host ∧
      ∃ a rest, s.host = a :: rest ∧ stalls s a = false ∧ ¬admitted s.cfg.bufSize a) := by
  rcases step_cases s with ⟨hturn, hstep⟩ | ⟨-, hstep⟩ | ⟨-, hstep⟩ <;> rw [hstep]
  · rcases hostTurn_cases (takeTurn s) with ⟨-, heq⟩ | ⟨a, rest, -, -, heq⟩ | ⟨a, rest, hhost, hstalls, heq⟩ <;>
      rw [heq]
    · exact .inl ⟨_, rfl⟩
    · exact .inl ⟨_, rfl⟩
    · exact (hostAccess_next_or_fault _ a).imp_right fun ⟨e, hfault, hadm⟩ =>
        ⟨e, hfault, hturn, a, rest, hhost, hstalls, hadm⟩
  · exact .inl (engineTurn_next _)
  · exact .inl ⟨_, rfl⟩

/-- Settles O54: the engine and the reset always answer a next state, and the host does at an admitted access. -/
theorem onlyHostAccessesFault : Obligations.OnlyHostAccessesFault := by
  unfold Obligations.OnlyHostAccessesFault
  intro s
  rcases step_next_or_fault s with ⟨t, hstep⟩ | ⟨e, hstep, hfault⟩ <;> rw [hstep]
  · exact ⟨nofun, nofun⟩
  · exact ⟨nofun, fun _ _ => hfault⟩

/-! ## Polling (10_state.md R47, 20_memory.md R68) -/

/-- A read of ID or STATUS answers it as it stands. -/
theorem hostAccess_poll (s : State) {a : HostAccess} (hop : a.op = .read) (hwidth : a.width = .word)
    (hoff : a.off = 0x000 ∨ a.off = 0x008) :
    hostAccess s a =
      .next (reply (.data (if a.off = 0x008 then statusWord s.regs.status else s.cfg.idValue)) s) := by
  obtain ⟨off, width, op⟩ := a
  obtain rfl : op = .read := hop
  obtain rfl : width = .word := hwidth
  rcases hoff with rfl | rfl
  · exact hostAccess_read_of_regAt s rfl
  · exact hostAccess_read_of_regAt s rfl

/-- In the host's turn such a read is made, BUSY or not, and changes the host's own fields only. -/
theorem step_poll {s : State} {a : HostAccess} {rest : List HostAccess} (hturn : nextTurn s = .host)
    (hhost : s.host = a :: rest) (hop : a.op = .read) (hwidth : a.width = .word)
    (hoff : a.off = 0x000 ∨ a.off = 0x008) :
    step s = .next ((takeTurn s).withLists rest
      (.data (if a.off = 0x008 then statusWord s.regs.status else s.cfg.idValue) :: s.replies)) := by
  have hnever : ¬stalls (takeTurn s) a = true := fun hstalls =>
    Bool.false_ne_true (((stalls_iff _ a).1 hstalls).2.symm.trans ((neverStalls_iff a).2 ⟨hop, hwidth, hoff⟩))
  rw [step_of_host_turn hturn, hostTurn_of_not_stalls (s := takeTurn s) hhost hnever, hostAccess_poll _ hop hwidth hoff]
  rfl

/-- In the engine's turn PENDING is run while BUSY = 1. -/
theorem step_of_busy_engine_turn {s : State} (hturn : nextTurn s = .engine) (hbusy : s.regs.status.busy = true) :
    step s = runPending (takeTurn s) := by
  rw [step_of_engine_turn hturn, engineTurn, takeTurn_regs, if_pos hbusy]

/-- The engine's step writes the same registers and BUF whatever the host's lists are. -/
theorem writesAlike_step {s : State} (hturn : nextTurn s = .engine) (hbusy : s.regs.status.busy = true)
    (accesses : List HostAccess) (answers : List Reply) :
    writesAlike true (takeTurn s) ((takeTurn s).withLists accesses answers) (step s)
      (step (s.withLists accesses answers)) := by
  rw [step_of_busy_engine_turn hturn hbusy, step_of_busy_engine_turn (s := s.withLists accesses answers) hturn hbusy]
  exact writesAlike_runPending

/-- Settles O46: the read takes itself off the host's list and records its answer, and the engine's step does not depend
on either. -/
theorem pollingDoesNotDisturbACommand : Obligations.PollingDoesNotDisturbACommand := by
  unfold Obligations.PollingDoesNotDisturbACommand
  intro s a rest q hbusy hhost hop hwidth hoff
  have hpoll := step_poll (s := { s with sched := .host :: .engine :: q }) rfl hhost hop hwidth hoff
  obtain ⟨r, b, hwithout, hwith, -⟩ := writesAlike_step (s := { s with sched := .engine :: q }) rfl hbusy rest
    (.data (if a.off = 0x008 then statusWord s.regs.status else s.cfg.idValue) :: s.replies)
  exact ⟨_, _, _, hpoll, hwith, hwithout, rfl, rfl, rfl, rfl⟩

end Sys2Proof.Machine
end

section
/-! SUPPORT. Memory (20_memory.md): the window (R60), which accesses are admitted (R62, R63), and what an access to BUF
reads and writes (R64, R69). -/

namespace Sys2Proof.Machine

/-! ## The window (20_memory.md R60) -/

theorem windowOffset_eq_some_iff (addr : Nat) (off : BitVec 17) :
    windowOffset addr = some off ↔ addr = Config.base + off.toNat := by
  have hoff : off.toNat < 0x20000 := off.isLt
  unfold windowOffset windowSize
  split_ifs with hwindow
  · rw [Option.some_inj, ← BitVec.toNat_inj, BitVec.toNat_ofNat, Nat.mod_eq_of_lt (by omega)]
    omega
  · exact iff_of_false nofun (by omega)

/-- Settles O57: BASE is a whole number of pages, and an address is in the window at the offset it has from BASE. -/
theorem windowHoldsExactlyItsOffsets : Obligations.WindowHoldsExactlyItsOffsets := by
  unfold Obligations.WindowHoldsExactlyItsOffsets
  refine ⟨?_, fun off => ?_, fun addr off haddr => ?_⟩
  · unfold Config.base
    omega
  · exact (windowOffset_eq_some_iff _ off).2 rfl
  · exact (windowOffset_eq_some_iff addr off).1 haddr

/-! ## Admitted accesses (20_memory.md R62, R63) -/

theorem admitted_of_busTarget {size : Nat} {a : HostAccess} {t : Target}
    (h : busTarget size a.off.toNat a.width = .ok t) : admitted size a := by
  unfold busTarget bufBase at h
  split_ifs at h with hreg hword halign hbuf halign hend
  · exact .inl ⟨hreg, not_not.1 hword, not_not.1 halign⟩
  · exact .inr ⟨Nat.not_lt.1 hreg, not_not.1 halign, Nat.not_lt.1 hend⟩

theorem hostAccess_next_iff_admitted (s : State) (a : HostAccess) :
    (∃ t, hostAccess s a = .next t) ↔ admitted s.cfg.bufSize a := by
  constructor
  · rintro ⟨t, hnext⟩
    rcases hostAccess_cases s a with ⟨e, -, hfault⟩ | ⟨_, htarget, -⟩
    · cases hnext.symm.trans hfault
    · exact admitted_of_busTarget htarget
  · intro hadm
    exact (hostAccess_next_or_fault s a).resolve_right fun ⟨_, _, hnot⟩ => hnot hadm

theorem hostAccess_fault_iff_not_admitted (s : State) (a : HostAccess) :
    (∃ e, hostAccess s a = .fault e) ↔ ¬admitted s.cfg.bufSize a := by
  rw [← hostAccess_next_iff_admitted]
  constructor
  · rintro ⟨e, hfault⟩ ⟨t, hnext⟩
    cases hnext.symm.trans hfault
  · intro hnot
    obtain ⟨e, hfault, -⟩ := (hostAccess_next_or_fault s a).resolve_left hnot
    exact ⟨e, hfault⟩

/-- Settles O53: `busTarget` gives a target exactly to the admitted accesses. -/
theorem busErrorsAreExactlyTheUnadmittedAccesses : Obligations.BusErrorsAreExactlyTheUnadmittedAccesses :=
  fun s a => ⟨hostAccess_fault_iff_not_admitted s a, hostAccess_next_iff_admitted s a⟩

/-! ## Reads (20_memory.md R69) -/

/-- Settles O56: whatever it reaches, a read that is performed only records its answer. -/
theorem hostReadsHaveNoSideEffect : Obligations.HostReadsHaveNoSideEffect := by
  unfold Obligations.HostReadsHaveNoSideEffect
  intro s t off w hnext
  rcases hostAccess_cases s ⟨off, w, .read⟩ with ⟨e, -, hfault⟩ | ⟨target, -, ⟨-, hread⟩ | ⟨v, hwrite, -⟩⟩
  · cases hnext.symm.trans hfault
  · cases hnext.symm.trans hread
    exact ⟨_, rfl⟩
  · cases hwrite

/-! ## Little-endian words (20_memory.md R64) -/

theorem byteOf_zero_leWord_cons (b : Byte) (bs : List Byte) : byteOf (leWord (b :: bs)) 0 = b := by
  refine BitVec.eq_of_getLsbD_eq fun i hi => ?_
  simp [byteOf, leWord, hi, show i < 32 by omega]

theorem byteOf_succ_leWord_cons (b : Byte) (bs : List Byte) {k : Nat} (hk : k + 1 < 4) :
    byteOf (leWord (b :: bs)) (k + 1) = byteOf (leWord bs) k := by
  refine BitVec.eq_of_getLsbD_eq fun i hi => ?_
  have hhigh : b.getLsbD (8 * (k + 1) + i) = false := BitVec.getLsbD_of_ge _ _ (by omega)
  have hshift : (leWord bs <<< 8).getLsbD (8 * (k + 1) + i) = (leWord bs).getLsbD (8 * k + i) := by
    rw [BitVec.getLsbD_shiftLeft, show 8 * (k + 1) + i - 8 = 8 * k + i by omega]
    simp [show 8 * (k + 1) + i < 32 by omega, show ¬8 * (k + 1) + i < 8 by omega]
  simp only [byteOf, leWord, BitVec.getLsbD_extractLsb', BitVec.getLsbD_or, BitVec.getLsbD_setWidth, hhigh, hshift,
    Bool.and_false, Bool.false_or]

/-- Byte k of the little-endian word of a list is the list's entry k. -/
theorem byteOf_leWord (bs : List Byte) (k : Nat) (hk : k < bs.length) (hword : k < 4) :
    byteOf (leWord bs) k = bs[k] := by
  induction bs generalizing k with
  | nil => cases hk
  | cons b bs ih =>
    cases k with
    | zero => exact byteOf_zero_leWord_cons b bs
    | succ k => exact (byteOf_succ_leWord_cons b bs hword).trans (ih k (Nat.lt_of_succ_lt_succ hk) (by omega))

theorem toNat_leWord_lt (bs : List Byte) : (leWord bs).toNat < 256 ^ bs.length := by
  induction bs with
  | nil => decide
  | cons b bs ih =>
    have hlow : b.toNat < 2 ^ (8 * (bs.length + 1)) :=
      Nat.lt_of_lt_of_le b.isLt (Nat.pow_le_pow_right (by decide) (by omega))
    have hhigh : (leWord bs <<< 8).toNat < 2 ^ (8 * (bs.length + 1)) := by
      rw [BitVec.toNat_shiftLeft, Nat.shiftLeft_eq, Nat.pow_mul, Nat.pow_succ]
      exact Nat.lt_of_le_of_lt (Nat.mod_le _ _) (Nat.mul_lt_mul_of_pos_right ih (by decide))
    calc (leWord (b :: bs)).toNat
        = b.toNat ||| (leWord bs <<< 8).toNat := by
          rw [leWord, BitVec.toNat_or, BitVec.toNat_setWidth_of_le (by decide)]
      _ < 2 ^ (8 * (bs.length + 1)) := Nat.or_lt_two_pow hlow hhigh
      _ = 256 ^ (b :: bs).length := Nat.pow_mul 2 8 _

theorem leBytes_getElem (v : Word) (n k : Nat) (h : k < (leBytes v n).length) : (leBytes v n)[k] = byteOf v k := by
  simp [leBytes]

/-- Byte k of a span written is entry k of the list. -/
theorem bufByte_memWrite_inside (s : State) (a : Nat) (bs : List Byte) {k : Nat} (hk : k < bs.length) :
    bufByte (memWrite s a bs) (a + k) = bs[k] := by
  rw [bufByte_memWrite, dif_pos (by omega)]
  congr 1
  omega

/-- Byte k of the word read from a span is byte k of the span. -/
theorem byteOf_leWord_memRead (s : State) (a : Nat) {n k : Nat} (hk : k < n) (hword : k < 4) :
    byteOf (leWord (memRead s a n)) k = bufByte s (a + k) := by
  rw [byteOf_leWord _ k (by rwa [memRead_length]) hword, memRead_getElem]

/-! ## Host accesses to BUF (20_memory.md R61, R64) -/

theorem widthBytes_le_four (w : Width) : widthBytes w ≤ 4 := by cases w <;> decide

section Buf

variable {s : State} {w : Width} {off : BitVec 17}

theorem busTarget_buf {size off : Nat} (hge : 0x1000 ≤ off) (halign : off % widthBytes w = 0)
    (hend : off + widthBytes w ≤ 0x1000 + size) : busTarget size off w = .ok (.buf (off - 0x1000)) := by
  have hpos := widthBytes_pos w
  unfold busTarget bufBase
  rw [if_neg (Nat.not_lt.2 hge), if_pos (by omega), if_neg (not_not.2 halign), if_neg (Nat.not_lt.2 hend)]

theorem hostAccess_buf_read (hge : 0x1000 ≤ off.toNat) (halign : off.toNat % widthBytes w = 0)
    (hend : off.toNat + widthBytes w ≤ 0x1000 + s.cfg.bufSize) :
    hostAccess s ⟨off, w, .read⟩ =
      .next (reply (.data (leWord (memRead s (off.toNat - 0x1000) (widthBytes w)))) s) := by
  unfold hostAccess
  rw [busTarget_buf hge halign hend]
  rfl

theorem hostAccess_buf_write (v : Word) (hge : 0x1000 ≤ off.toNat) (halign : off.toNat % widthBytes w = 0)
    (hend : off.toNat + widthBytes w ≤ 0x1000 + s.cfg.bufSize) :
    hostAccess s ⟨off, w, .write v⟩ =
      .next (reply .written (memWrite s (off.toNat - 0x1000) (leBytes v (widthBytes w)))) := by
  unfold hostAccess
  rw [busTarget_buf hge halign hend]
  rfl

end Buf

/-- An answer recorded changes no byte of BUF. -/
@[simp] theorem bufByte_reply (r : Reply) (s : State) (a : Nat) : bufByte (reply r s) a = bufByte s a :=
  bufByte_congr rfl rfl a

/-- Settles O55: a read answers the little-endian word of its span, and a write stores its value's low bytes there. -/
theorem bufAccessesAreLittleEndian : Obligations.BufAccessesAreLittleEndian := by
  unfold Obligations.BufAccessesAreLittleEndian
  intro s w off v hge halign hend
  have hfour := widthBytes_le_four w
  refine ⟨⟨_, hostAccess_buf_read hge halign hend, ?_, fun k hk => ?_⟩,
    ⟨_, hostAccess_buf_write v hge halign hend, fun k hk => ?_, fun a ha => ?_, rfl, rfl⟩⟩
  · exact (toNat_leWord_lt _).trans_eq (by rw [memRead_length])
  · exact byteOf_leWord_memRead s _ hk (by omega)
  · rw [bufByte_reply, bufByte_memWrite_inside _ _ _ (by rwa [leBytes_length]), leBytes_getElem, byteOf]
  · rw [bufByte_reply, bufByte_memWrite_outside _ _ _ _ (by rwa [leBytes_length])]

end Sys2Proof.Machine
end

section
/-! SUPPORT. Encoding (30_encoding.md): which words decode and to what (R80 to R82), how the engine completes a word that
stands for no command (R83), and the registers that no command has among its outputs (R81). -/

namespace Sys2Proof.Machine

/-! ## The fields of a command word (30_encoding.md R80) -/

/-- RSVD and OPCODE are the whole word. -/
theorem eq_setWidth_iff (w : Word) (op : Byte) : w = op.setWidth 32 ↔ rsvdField w = 0 ∧ opcodeField w = op := by
  simp only [rsvdField, opcodeField, ← BitVec.toNat_inj, BitVec.extractLsb'_toNat, BitVec.toNat_setWidth,
    Nat.shiftRight_eq_div_pow, BitVec.ofNat_eq_ofNat, BitVec.toNat_ofNat]
  omega

theorem toNat_of_rsvdField_eq_zero {w : Word} (h : rsvdField w = 0) : w.toNat = (opcodeField w).toNat := by
  calc w.toNat
    _ = ((opcodeField w).setWidth 32).toNat := congrArg _ ((eq_setWidth_iff w _).2 ⟨h, rfl⟩)
    _ = (opcodeField w).toNat := BitVec.toNat_setWidth_of_le (by decide)

/-! ## Decoding (30_encoding.md R81, R82) -/

/-- R81's table, read in either direction. -/
theorem decodeOpcode_eq_some_iff (op : Byte) (i : Instr) : decodeOpcode op = some i ↔ opcodeOf i = op := by
  constructor
  · intro h
    unfold decodeOpcode at h
    split at h <;> cases h
    all_goals next hop => exact BitVec.eq_of_toNat_eq hop.symm
  · rintro rfl
    cases i <;> rfl

theorem decode_of_rsvdField_ne_zero {w : Word} (h : rsvdField w ≠ 0) :
    decode w = .error (.reservedBits (rsvdField w)) := if_pos h

theorem decode_of_undefined_opcode {w : Word} (hrsvd : rsvdField w = 0) (hop : opcodeDefined (opcodeField w) = false) :
    decode w = .error (.undefinedOpcode (opcodeField w)) := by
  rw [← decodeOpcode_isSome_eq, Option.isSome_eq_false_iff, Option.isNone_iff_eq_none] at hop
  rw [decode, if_neg (not_not.2 hrsvd), hop]

theorem decode_eq_ok_iff_fields (w : Word) (i : Instr) :
    decode w = .ok i ↔ rsvdField w = 0 ∧ decodeOpcode (opcodeField w) = some i := by
  unfold decode
  split
  · next hrsvd => exact iff_of_false nofun fun h => hrsvd h.1
  · next hrsvd => cases decodeOpcode (opcodeField w) <;> simp [not_not.1 hrsvd]

/-- Decoding and encoding are inverse. -/
theorem decode_eq_ok_iff (w : Word) (i : Instr) : decode w = .ok i ↔ w = encode i := by
  calc decode w = .ok i
    _ ↔ rsvdField w = 0 ∧ decodeOpcode (opcodeField w) = some i := decode_eq_ok_iff_fields w i
    _ ↔ rsvdField w = 0 ∧ opcodeField w = opcodeOf i := by rw [decodeOpcode_eq_some_iff, eq_comm (a := opcodeOf i)]
    _ ↔ w = encode i := (eq_setWidth_iff w (opcodeOf i)).symm

theorem exists_decode_eq_ok_iff (w : Word) :
    (∃ i, decode w = .ok i) ↔ rsvdField w = 0 ∧ opcodeDefined (opcodeField w) = true := by
  simp only [decode_eq_ok_iff_fields, exists_and_left, ← decodeOpcode_isSome_eq, Option.isSome_iff_exists]

/-- Settles O1: the table is its own inverse on opcode bytes, and a word is its RSVD and OPCODE fields. -/
theorem decodeSelectsExactlyTheDefinedWords : Obligations.DecodeSelectsExactlyTheDefinedWords :=
  ⟨decode_eq_ok_iff, exists_decode_eq_ok_iff,
    fun w i h => toNat_of_rsvdField_eq_zero ((decode_eq_ok_iff_fields w i).1 h).1⟩

/-- Settles O2: each word is the encoding of its command. -/
theorem writtenOutWordsDecode : Obligations.WrittenOutWordsDecode :=
  ⟨(decode_eq_ok_iff _ .nop).2 rfl, (decode_eq_ok_iff _ .crc16).2 rfl, (decode_eq_ok_iff _ .accSpan).2 rfl,
    (decode_eq_ok_iff _ .join16).2 rfl, (decode_eq_ok_iff _ .scale).2 rfl, (decode_eq_ok_iff _ .buildRec).2 rfl,
    (decode_eq_ok_iff _ .parse).2 rfl⟩

/-! ## Words that stand for no command (30_encoding.md R83, 44_control.md R242) -/

theorem runPending_of_decode_error {s : State} {e : DecodeReject} (h : decode s.pending = .error e) :
    runPending s = execIllegal e s := by
  rw [runPending, h]

/-- Settles O3: the engine runs PENDING, whose decoding is refused with the bits that `execIllegal` reports. -/
theorem illegalWordsCompleteWithIllegalCommand : Obligations.IllegalWordsCompleteWithIllegalCommand := by
  unfold Obligations.IllegalWordsCompleteWithIllegalCommand
  intro s hbusy hturn
  rw [step_of_busy_engine_turn hturn hbusy]
  refine ⟨fun hrsvd => ?_, fun hrsvd hop => ?_⟩
  · exact runPending_of_decode_error (s := takeTurn s) (decode_of_rsvdField_ne_zero hrsvd)
  · exact runPending_of_decode_error (s := takeTurn s) (decode_of_undefined_opcode hrsvd hop)

/-! ## The registers of the host's side (30_encoding.md R81): one rule per shared operation -/

/-- Whatever next state is answered has the host's registers of s. -/
def keepsHostSide (s : State) (x : Result) : Prop := ∀ t, x = .next t → hostSide t.regs = hostSide s.regs

section Command

variable {s : State}

theorem keepsHostSide_completed {t : State} (h : hostSide t.regs = hostSide s.regs) :
    keepsHostSide s (completed t) := by
  rintro _ ⟨⟩
  exact h

theorem keepsHostSide_raised (e : ErrorKind) (x a : Word) : keepsHostSide s (raised e x a s) := by
  rintro _ ⟨⟩
  rfl

/-- A check of a command's own. -/
theorem keepsHostSide_guard {p : Prop} [Decidable p] {e : ErrorKind} {x a : Word} {go : Result}
    (hgo : keepsHostSide s go) : keepsHostSide s (if p then raised e x a s else go) := by
  split
  · exact keepsHostSide_raised e x a
  · exact hgo

theorem keepsHostSide_checkSpan {off len : Nat} {go : Result} (hgo : keepsHostSide s go) :
    keepsHostSide s (checkSpan s off len go) := by
  rcases checkSpan_cases s off len go with ⟨-, heq⟩ | ⟨-, heq⟩ <;> rw [heq]
  · exact hgo
  · exact keepsHostSide_raised _ _ _

theorem keepsHostSide_checkMax {max : Nat} {v : Word} {go : Result} (hgo : keepsHostSide s go) :
    keepsHostSide s (checkMax s max v go) := by
  rcases checkMax_cases s max v go with ⟨-, heq⟩ | ⟨-, heq⟩ <;> rw [heq]
  · exact hgo
  · exact keepsHostSide_raised _ _ _

theorem keepsHostSide_emitFrame (n : Nat) (payload : List Byte) : keepsHostSide s (emitFrame s n payload) :=
  keepsHostSide_guard (keepsHostSide_guard (keepsHostSide_checkSpan (keepsHostSide_completed rfl)))

/-- Every register a command writes, SRESET apart, is one that `hostSide` blanks. -/
theorem keepsHostSide_exec {i : Instr} (hi : i ≠ .sreset) : keepsHostSide s (exec i s) := by
  cases i with
  | nop | accClr | attEnc => exact keepsHostSide_completed rfl
  | sreset => exact absurd rfl hi
  | xor8 | crc16 | accSpan | put32le | get16le | get32le | get16be =>
    exact keepsHostSide_checkSpan (keepsHostSide_completed rfl)
  | accFeed | unpackTbl | split16 | attDec => exact keepsHostSide_checkMax (keepsHostSide_completed rfl)
  | packTbl | join16 => exact keepsHostSide_checkMax (keepsHostSide_checkMax (keepsHostSide_completed rfl))
  | put16le | put16be => exact keepsHostSide_checkSpan (keepsHostSide_checkMax (keepsHostSide_completed rfl))
  | scale | unscale => exact keepsHostSide_guard (keepsHostSide_completed rfl)
  | build => exact keepsHostSide_guard (keepsHostSide_checkSpan (keepsHostSide_emitFrame _ _))
  | buildRec =>
    exact keepsHostSide_guard <| keepsHostSide_guard <| keepsHostSide_guard <|
      keepsHostSide_checkSpan <| keepsHostSide_checkSpan <| keepsHostSide_checkSpan (keepsHostSide_emitFrame _ _)
  | parse =>
    exact keepsHostSide_checkSpan <| keepsHostSide_guard <| keepsHostSide_guard <| keepsHostSide_guard <|
      keepsHostSide_guard <| keepsHostSide_guard <| keepsHostSide_guard <| keepsHostSide_guard <|
      keepsHostSide_completed rfl

end Command

/-- Settles O8: a command's next state is new in the registers and in BUF alone, and in none of the host's registers. -/
theorem commandsKeepTheHostsRegisters : Obligations.CommandsKeepTheHostsRegisters := by
  unfold Obligations.CommandsKeepTheHostsRegisters
  intro i s t hexec
  refine ⟨fun hi => keepsHostSide_exec hi t hexec, ?_⟩
  obtain ⟨r, b, hnext, -, -⟩ := writesAlike_exec (s := s) (accesses := s.host) (answers := s.replies) i
  obtain rfl := Host.Outcome.next.inj (hexec.symm.trans hnext)
  exact ⟨rfl, rfl, rfl, rfl, rfl, rfl⟩

end Sys2Proof.Machine
end

section
/-! SUPPORT. The checksum unit (40_checksum.md): the laws of xor8 and of crc16 (R100 to R102, R109), and the commands'
results (R104 to R108), of which streaming (R108's corner cases) is a consequence. -/

namespace Sys2Proof.Machine

/-! ## xor8 (40_checksum.md R100, R109) -/

@[simp] theorem xor8_nil : xor8 [] = 0 := rfl

theorem xor8_singleton (b : Byte) : xor8 [b] = b := BitVec.zero_xor

/-- A fold from an accumulator, which is how ACC_SPAN's XOR continues one (R108). -/
theorem foldl_xor_eq (x : Byte) (bs : List Byte) : bs.foldl (fun a b => a ^^^ b) x = x ^^^ xor8 bs := by
  calc bs.foldl (fun a b => a ^^^ b) x
    _ = bs.foldl (fun a b => a ^^^ b) (x ^^^ 0) := by rw [BitVec.ofNat_eq_ofNat, BitVec.xor_zero]
    _ = x ^^^ xor8 bs := List.foldl_assoc

theorem xor8_append (l m : List Byte) : xor8 (l ++ m) = xor8 l ^^^ xor8 m := by
  rw [← foldl_xor_eq, xor8, List.foldl_append, xor8]

theorem xor8_perm {l m : List Byte} (h : l.Perm m) : xor8 l = xor8 m := h.foldl_eq 0

/-- A span followed by its own checksum (R109 (c)). -/
theorem xor8_append_own_xor8 (l : List Byte) : xor8 (l ++ [xor8 l]) = 0 := by
  rw [xor8_append, xor8_singleton, BitVec.xor_self]
  rfl

/-! ## crc_step (40_checksum.md R101) -/

/-- The bit shifted out comes back as bit 15, because the polynomial has bit 15 and a shifted register has not. -/
theorem getLsbD_crcShift_top (c : Half) : (crcShift c).getLsbD 15 = c.getLsbD 0 := by
  have hshift : (c >>> 1).getLsbD 15 = false := by
    rw [BitVec.getLsbD_ushiftRight]
    exact BitVec.getLsbD_of_ge c 16 (by decide)
  have hpoly : crcPoly.getLsbD 15 = true := by decide
  unfold crcShift
  split
  · next hbit => rw [BitVec.getLsbD_xor, hshift, hpoly, hbit, Bool.false_xor]
  · next hbit => rw [hshift, Bool.eq_false_of_not_eq_true hbit]

/-- A register is its bit 0 and what a right shift keeps of it. -/
theorem eq_of_getLsbD_zero_of_ushiftRight_one {c d : Half} (hbit : c.getLsbD 0 = d.getLsbD 0)
    (hshift : c >>> 1 = d >>> 1) : c = d := by
  refine BitVec.eq_of_getLsbD_eq fun i _ => ?_
  cases i with
  | zero => exact hbit
  | succ i =>
    have hi := congrArg (·.getLsbD i) hshift
    simpa only [BitVec.getLsbD_ushiftRight, Nat.add_comm 1 i] using hi

/-- No two registers shift to the same one: bit 15 tells whether the polynomial was added. -/
theorem crcShift_injective : Function.Injective crcShift := by
  intro c d heq
  have hbit : c.getLsbD 0 = d.getLsbD 0 := by rw [← getLsbD_crcShift_top, heq, getLsbD_crcShift_top]
  refine eq_of_getLsbD_zero_of_ushiftRight_one hbit ?_
  unfold crcShift at heq
  rw [hbit] at heq
  split at heq
  · exact (BitVec.xor_left_inj _).1 heq
  · exact heq

theorem crcShifts_eq_iterate (n : Nat) : crcShifts n = crcShift^[n] := by
  funext c
  induction n generalizing c with
  | zero => rfl
  | succ n ih => exact ih (crcShift c)

theorem crcShifts_injective (n : Nat) : Function.Injective (crcShifts n) := by
  rw [crcShifts_eq_iterate]
  exact crcShift_injective.iterate n

theorem crcStep_eq_eight_shifts {f : Half → Half}
    (hf : ∀ x, f x = if x.getLsbD 0 then (x >>> 1) ^^^ 0xA001 else x >>> 1) (c : Half) (b : Byte) :
    crcStep c b = f (f (f (f (f (f (f (f (c ^^^ b.setWidth 16)))))))) := by
  obtain rfl : f = crcShift := funext hf
  rfl

theorem crcStep_injective_register (b : Byte) : Function.Injective (crcStep · b) :=
  fun _ _ heq => (BitVec.xor_left_inj _).1 (crcShifts_injective 8 heq)

theorem setWidth_16_injective : Function.Injective fun b : Byte => b.setWidth 16 :=
  Function.LeftInverse.injective (g := BitVec.setWidth 8) fun b => by
    rw [BitVec.setWidth_setWidth_of_le b (by decide), BitVec.setWidth_eq]

theorem crcStep_injective_byte (c : Half) : Function.Injective (crcStep c) :=
  fun _ _ heq => setWidth_16_injective ((BitVec.xor_right_inj _).1 (crcShifts_injective 8 heq))

/-! ## crc16 (40_checksum.md R102) -/

theorem crcRun_append (c : Half) (l m : List Byte) : crcRun c (l ++ m) = crcRun (crcRun c l) m := List.foldl_append

theorem crcRun_concat (c : Half) (l : List Byte) (b : Byte) : crcRun c (l ++ [b]) = crcStep (crcRun c l) b :=
  crcRun_append c l [b]

theorem crc16_concat (init xorout : Half) (l : List Byte) (b : Byte) :
    crc16 init xorout (l ++ [b]) = crcStep (crc16 init xorout l ^^^ xorout) b ^^^ xorout := by
  have hrun : crc16 init xorout l ^^^ xorout = crcRun init l := by
    rw [crc16, BitVec.xor_assoc, BitVec.xor_self, BitVec.xor_zero]
  rw [hrun, crc16, crcRun_concat]

/-- Two different registers stay different over any list. -/
theorem crcRun_injective (bs : List Byte) : Function.Injective (crcRun · bs) := by
  induction bs with
  | nil => exact fun _ _ heq => heq
  | cons b bs ih => exact ih.comp (crcStep_injective_register b)

/-- Settles O20: the changed byte makes the registers differ at once, and they stay different to the end. -/
theorem crcNoticesAChangedByte : Obligations.CrcNoticesAChangedByte := by
  unfold Obligations.CrcNoticesAChangedByte
  intro init xorout l m a b hne heq
  have hrun : crcRun init (l ++ a :: m) = crcRun init (l ++ b :: m) := (BitVec.xor_left_inj _).1 heq
  rw [crcRun_append, crcRun_append] at hrun
  have hstep : crcStep (crcRun init l) a = crcStep (crcRun init l) b := crcRun_injective m hrun
  exact hne (crcStep_injective_byte _ hstep)

/-- Settles O19: XOR is commutative and associative, and is its own inverse; the CRC of two bytes is not symmetric. -/
theorem xorIsOrderFreeAndCrcIsNot : Obligations.XorIsOrderFreeAndCrcIsNot :=
  ⟨fun _ _ => xor8_perm, by decide +kernel, by decide +kernel, xor8_append_own_xor8⟩

/-- Settles O18: any such f is the model's shift, and a list's fold takes its last byte last. -/
theorem checksumAlgorithmsAreTheSpecs : Obligations.ChecksumAlgorithmsAreTheSpecs := by
  unfold Obligations.ChecksumAlgorithmsAreTheSpecs
  refine ⟨fun f c b hf => crcStep_eq_eight_shifts hf c b, xor8_nil, fun l b => ?_, fun _ _ => rfl, crc16_concat,
    by decide +kernel, by decide +kernel⟩
  rw [xor8_append, xor8_singleton]

/-! ## The commands: one equation per outcome (40_checksum.md R104 to R108) -/

/-- s after a success that leaves c and x in the accumulators, and RES0 and RES1 read off them (R106 to R108). -/
def State.withAccumulators (s : State) (c : Half) (x : Byte) : State :=
  { s with regs :=
    { okRegs s with
      crcAcc := c
      xorAcc := x
      res0 := (c ^^^ crcXorout s.regs).setWidth 32
      res1 := x.setWidth 32 } }

theorem accumulated_eq (s : State) (c : Half) (x : Byte) : accumulated s c x = .next (s.withAccumulators c x) := rfl

/-- The raise of a span check, in the statements' words (R104). -/
theorem checkSpan_eq_outOfRange {s : State} {off len : Nat} (h : s.cfg.bufSize < off + len) (go : Result) :
    checkSpan s off len go = .next (outOfRange s s.cfg.bufSize (off + len)) :=
  checkSpan_fail s off len go h

/-- The raise of a value check, in the statements' words (R107). -/
theorem checkMax_eq_outOfRange {s : State} {max : Nat} {v : Word} (h : max < v.toNat) (go : Result) :
    checkMax s max v go = .next (outOfRange s max v.toNat) := by
  rw [checkMax_fail s max v go h, raise_eq_failState, outOfRange, BitVec.ofNat_toNat, BitVec.setWidth_eq]
  rfl

theorem byteOf_zero_eq_ofNat (v : Word) : byteOf v 0 = BitVec.ofNat 8 v.toNat := by
  refine BitVec.eq_of_toNat_eq ?_
  rw [byteOf, BitVec.extractLsb'_toNat, BitVec.toNat_ofNat, Nat.mul_zero, Nat.shiftRight_zero]

theorem exec_xor8_of_span {s : State} (h : s.regs.arg0.toNat + s.regs.arg1.toNat ≤ s.cfg.bufSize) :
    exec .xor8 s = .next (okRes0 s ((xor8 (memRead s s.regs.arg0.toNat s.regs.arg1.toNat)).setWidth 32)) :=
  checkSpan_pass _ _ _ _ h

theorem exec_crc16_of_span {s : State} (h : s.regs.arg0.toNat + s.regs.arg1.toNat ≤ s.cfg.bufSize) :
    exec .crc16 s = .next (okRes0 s ((crcOf s.regs (memRead s s.regs.arg0.toNat s.regs.arg1.toNat)).setWidth 32)) :=
  checkSpan_pass _ _ _ _ h

theorem exec_accClr (s : State) : exec .accClr s = .next (s.withAccumulators (crcInit s.regs) 0) := rfl

theorem exec_accFeed_of_byte {s : State} (h : s.regs.arg0.toNat ≤ 0xFF) :
    exec .accFeed s = .next (s.withAccumulators (crcStep s.regs.crcAcc (BitVec.ofNat 8 s.regs.arg0.toNat))
      (s.regs.xorAcc ^^^ BitVec.ofNat 8 s.regs.arg0.toNat)) := by
  rw [← byteOf_zero_eq_ofNat]
  exact (checkMax_pass _ _ _ _ h).trans (accumulated_eq ..)

theorem exec_accSpan_of_span {s : State} (h : s.regs.arg0.toNat + s.regs.arg1.toNat ≤ s.cfg.bufSize) :
    exec .accSpan s = .next (s.withAccumulators
      (crcRun s.regs.crcAcc (memRead s s.regs.arg0.toNat s.regs.arg1.toNat))
      (s.regs.xorAcc ^^^ xor8 (memRead s s.regs.arg0.toNat s.regs.arg1.toNat))) :=
  (checkSpan_pass _ _ _ _ h).trans (accumulated_eq ..)

/-- Settles O11: the span check passes and the XOR is RES0, or it raises. -/
theorem xor8OfASpan : Obligations.Xor8OfASpan :=
  ⟨(decode_eq_ok_iff _ .xor8).2 rfl, fun _ => exec_xor8_of_span, fun _ h => checkSpan_eq_outOfRange h _⟩

/-- Settles O12: the span check passes and the CRC with CRC_CFG's INIT and XOROUT is RES0, or it raises. -/
theorem crc16OfASpan : Obligations.Crc16OfASpan :=
  ⟨(decode_eq_ok_iff _ .crc16).2 rfl, fun _ => exec_crc16_of_span, fun _ h => checkSpan_eq_outOfRange h _⟩

/-- Settles O13: ACC_CLR checks nothing. -/
theorem accClrResetsBothAccumulators : Obligations.AccClrResetsBothAccumulators :=
  ⟨(decode_eq_ok_iff _ .accClr).2 rfl, exec_accClr⟩

/-- Settles O14: the value check passes and ARG0's low byte is fed, or it raises. -/
theorem accFeedFeedsOneByte : Obligations.AccFeedFeedsOneByte :=
  ⟨(decode_eq_ok_iff _ .accFeed).2 rfl, fun _ => exec_accFeed_of_byte, fun _ h => checkMax_eq_outOfRange h _⟩

/-- Settles O15: the span check passes and the span's bytes are fed, or it raises. -/
theorem accSpanFeedsASpan : Obligations.AccSpanFeedsASpan :=
  ⟨(decode_eq_ok_iff _ .accSpan).2 rfl, fun _ => exec_accSpan_of_span, fun _ h => checkSpan_eq_outOfRange h _⟩

/-! ## Streaming (40_checksum.md R108, corner cases) -/

/-- Settles O16: from ACC_CLR's accumulators, INIT and 0, ACC_SPAN's are the two one-shot folds of the same bytes. -/
theorem streamedChecksumsEqualOneShot : Obligations.StreamedChecksumsEqualOneShot := by
  unfold Obligations.StreamedChecksumsEqualOneShot
  intro s hspan
  have hcrc (bs : List Byte) : crcRun (crcInit s.regs) bs ^^^ crcXorout s.regs = crcOf s.regs bs := rfl
  have hxor (bs : List Byte) : 0 ^^^ xor8 bs = xor8 bs := BitVec.zero_xor
  exact ⟨_, _, _, _, exec_accClr s, exec_accSpan_of_span hspan, exec_xor8_of_span hspan, exec_crc16_of_span hspan,
    congrArg (BitVec.setWidth 32) (hcrc _), congrArg (BitVec.setWidth 32) (hxor _)⟩

/-- s with a span in ARG0 and ARG1. -/
def State.withSpan (s : State) (off n : Nat) : State :=
  { s with regs := { s.regs with arg0 := BitVec.ofNat 32 off, arg1 := BitVec.ofNat 32 n } }

/-- ACC_SPAN of a span in BUF whose offset and length the 32-bit arguments can hold. -/
theorem exec_accSpan_withSpan {s : State} {off n : Nat} (hspan : off + n ≤ s.cfg.bufSize)
    (hwidth : off + n < 2 ^ 32) :
    exec .accSpan (s.withSpan off n) = .next ((s.withSpan off n).withAccumulators
      (crcRun s.regs.crcAcc (memRead s off n)) (s.regs.xorAcc ^^^ xor8 (memRead s off n))) := by
  have hoff : (s.withSpan off n).regs.arg0.toNat = off := (BitVec.toNat_ofNat ..).trans (Nat.mod_eq_of_lt (by omega))
  have hn : (s.withSpan off n).regs.arg1.toNat = n := (BitVec.toNat_ofNat ..).trans (Nat.mod_eq_of_lt (by omega))
  rw [exec_accSpan_of_span (by rwa [hoff, hn]), hoff, hn]
  rfl

/-- Settles O17: the first span's accumulators start the second's folds, and a fold over a union is the two in turn. -/
theorem adjacentSpansAccumulateAsOne : Obligations.AdjacentSpansAccumulateAsOne := by
  unfold Obligations.AdjacentSpansAccumulateAsOne
  intro s off n k hspan hwidth
  have hcrc : crcRun (crcRun s.regs.crcAcc (memRead s off n)) (memRead s (off + n) k) =
      crcRun s.regs.crcAcc (memRead s off (n + k)) := by
    rw [memRead_append, crcRun_append]
  have hxor : s.regs.xorAcc ^^^ xor8 (memRead s off n) ^^^ xor8 (memRead s (off + n) k) =
      s.regs.xorAcc ^^^ xor8 (memRead s off (n + k)) := by
    rw [memRead_append, xor8_append, BitVec.xor_assoc]
  exact ⟨_, _, _, exec_accSpan_withSpan (by omega) (by omega),
    exec_accSpan_withSpan ((Nat.add_assoc off n k).trans_le hspan) (by omega), exec_accSpan_withSpan hspan hwidth,
    hcrc, hxor, congrArg (fun c => (c ^^^ crcXorout s.regs).setWidth 32) hcrc, congrArg (BitVec.setWidth 32) hxor⟩

end Sys2Proof.Machine
end

section
/-! SUPPORT. The field codec (41_field_codec.md): table byte and 16-bit split and join (R130 to R133), field stores and
loads in BUF (R134 to R139), the attenuation code (R140 to R142) and step scaling (R143 to R145). For each command first
what it computes, as an equation between numbers, and then its results. -/

namespace Sys2Proof.Machine

/-! ## Fields of a word as numbers -/

/-- A shifted word with a second one put into the room made is their sum. -/
theorem shiftLeft_or_eq_ofNat (x : Word) {y : Word} {k : Nat} (hy : y.toNat < 2 ^ k) :
    (x <<< k) ||| y = BitVec.ofNat 32 (2 ^ k * x.toNat + y.toNat) := by
  refine BitVec.eq_of_toNat_eq ?_
  calc ((x <<< k) ||| y).toNat
    _ = x.toNat <<< k % 2 ^ 32 ||| y.toNat % 2 ^ 32 := by
      rw [BitVec.toNat_or, BitVec.toNat_shiftLeft, Nat.mod_eq_of_lt y.isLt]
    _ = (2 ^ k * x.toNat + y.toNat) % 2 ^ 32 := by
      rw [← Nat.or_mod_two_pow, ← Nat.shiftLeft_add_eq_or_of_lt hy, Nat.shiftLeft_eq, Nat.mul_comm]
    _ = (BitVec.ofNat 32 (2 ^ k * x.toNat + y.toNat)).toNat := (BitVec.toNat_ofNat ..).symm

theorem setWidth_extractLsb'_eq_ofNat (v : Word) (k n : Nat) :
    (v.extractLsb' k n).setWidth 32 = BitVec.ofNat 32 (v.toNat / 2 ^ k % 2 ^ n) := by
  rw [← BitVec.ofNat_toNat, BitVec.extractLsb'_toNat, Nat.shiftRight_eq_div_pow]

theorem toNat_byteOf (v : Word) (k : Nat) : (byteOf v k).toNat = v.toNat / 256 ^ k % 256 := by
  rw [byteOf, BitVec.extractLsb'_toNat, Nat.shiftRight_eq_div_pow, Nat.pow_mul]

theorem byteOf_eq_ofNat (v : Word) (k : Nat) : byteOf v k = BitVec.ofNat 8 (v.toNat / 256 ^ k) := by
  refine BitVec.eq_of_toNat_eq ?_
  rw [toNat_byteOf, BitVec.toNat_ofNat]

/-- A number of 32 bits, read back from its word. -/
theorem toNat_ofNat_word {n : Nat} (hn : n < 2 ^ 32) : (BitVec.ofNat 32 n).toNat = n :=
  (BitVec.toNat_ofNat ..).trans (Nat.mod_eq_of_lt hn)

theorem ofNat_eq_word {n : Nat} {v : Word} (h : n = v.toNat) : BitVec.ofNat 32 n = v := by
  rw [h, BitVec.ofNat_toNat, BitVec.setWidth_eq]

/-- s with another ARG0. -/
def State.withArg0 (s : State) (v : Word) : State := { s with regs := { s.regs with arg0 := v } }

/-- s with other arguments. -/
def State.withArgs (s : State) (v w : Word) : State := { s with regs := { s.regs with arg0 := v, arg1 := w } }

section Command

variable {s : State}

/-! ## Table byte (R130, R131) -/

theorem exec_packTbl_of_nibbles (h₀ : s.regs.arg0.toNat ≤ 15) (h₁ : s.regs.arg1.toNat ≤ 15) :
    exec .packTbl s = .next (okRes0 s (BitVec.ofNat 32 (16 * s.regs.arg0.toNat + s.regs.arg1.toNat))) := by
  have hbyte : (s.regs.arg0 <<< 4) ||| s.regs.arg1 = BitVec.ofNat 32 (16 * s.regs.arg0.toNat + s.regs.arg1.toNat) :=
    shiftLeft_or_eq_ofNat _ (Nat.lt_succ_of_le h₁)
  rw [← hbyte]
  exact (checkMax_pass _ _ _ _ h₀).trans (checkMax_pass _ _ _ _ h₁)

theorem exec_unpackTbl_of_byte (h : s.regs.arg0.toNat ≤ 0xFF) :
    exec .unpackTbl s =
      .next (okRes s (BitVec.ofNat 32 (s.regs.arg0.toNat / 16)) (BitVec.ofNat 32 (s.regs.arg0.toNat % 16))) := by
  have hhigh : s.regs.arg0.toNat / 2 ^ 4 % 2 ^ 4 = s.regs.arg0.toNat / 16 := by omega
  have hlow : s.regs.arg0.toNat / 2 ^ 0 % 2 ^ 4 = s.regs.arg0.toNat % 16 := by omega
  rw [← hhigh, ← hlow, ← setWidth_extractLsb'_eq_ofNat, ← setWidth_extractLsb'_eq_ofNat]
  exact checkMax_pass _ _ _ _ h

/-! ## 16-bit split and join (R132, R133) -/

theorem exec_split16_of_half (h : s.regs.arg0.toNat ≤ 0xFFFF) :
    exec .split16 s =
      .next (okRes s (BitVec.ofNat 32 (s.regs.arg0.toNat % 256)) (BitVec.ofNat 32 (s.regs.arg0.toNat / 256))) := by
  have hlow : s.regs.arg0.toNat / 2 ^ 0 % 2 ^ 8 = s.regs.arg0.toNat % 256 := by omega
  have hhigh : s.regs.arg0.toNat / 2 ^ 8 % 2 ^ 8 = s.regs.arg0.toNat / 256 := by omega
  rw [← hhigh, ← hlow, ← setWidth_extractLsb'_eq_ofNat, ← setWidth_extractLsb'_eq_ofNat]
  exact checkMax_pass _ _ _ _ h

theorem exec_join16_of_bytes (h₀ : s.regs.arg0.toNat ≤ 0xFF) (h₁ : s.regs.arg1.toNat ≤ 0xFF) :
    exec .join16 s = .next (okRes0 s (BitVec.ofNat 32 (256 * s.regs.arg1.toNat + s.regs.arg0.toNat))) := by
  have hhalf : (s.regs.arg1 <<< 8) ||| s.regs.arg0 = BitVec.ofNat 32 (256 * s.regs.arg1.toNat + s.regs.arg0.toNat) :=
    shiftLeft_or_eq_ofNat _ (Nat.lt_succ_of_le h₀)
  rw [← hhalf]
  exact (checkMax_pass _ _ _ _ h₀).trans (checkMax_pass _ _ _ _ h₁)

end Command

/-- Settles O21: both value checks pass and the nibbles are disjoint, or the first that fails raises. -/
theorem packTblPacksTwoNibbles : Obligations.PackTblPacksTwoNibbles :=
  ⟨(decode_eq_ok_iff _ .packTbl).2 rfl, fun _ =>
    ⟨fun h => checkMax_eq_outOfRange h _,
      fun h₀ h₁ => (checkMax_pass _ _ _ _ h₀).trans (checkMax_eq_outOfRange h₁ _), exec_packTbl_of_nibbles⟩⟩

/-- Settles O22: the value check passes and the fields are quotient and remainder by 16, or it raises. -/
theorem unpackTblSplitsTheNibbles : Obligations.UnpackTblSplitsTheNibbles :=
  ⟨(decode_eq_ok_iff _ .unpackTbl).2 rfl, fun _ => ⟨fun h => checkMax_eq_outOfRange h _, exec_unpackTbl_of_byte⟩⟩

/-- Settles O23: the value check passes and the bytes are remainder and quotient by 256, or it raises. -/
theorem split16GivesLowThenHigh : Obligations.Split16GivesLowThenHigh :=
  ⟨(decode_eq_ok_iff _ .split16).2 rfl, fun _ => ⟨fun h => checkMax_eq_outOfRange h _, exec_split16_of_half⟩⟩

/-- Settles O24: both value checks pass and the bytes are disjoint, or the first that fails raises. -/
theorem join16JoinsLowAndHigh : Obligations.Join16JoinsLowAndHigh :=
  ⟨(decode_eq_ok_iff _ .join16).2 rfl, fun _ =>
    ⟨fun h => checkMax_eq_outOfRange h _,
      fun h₀ h₁ => (checkMax_pass _ _ _ _ h₀).trans (checkMax_eq_outOfRange h₁ _), exec_join16_of_bytes⟩⟩

/-- Settles O33: quotient and remainder by 16 of 16 h + l. -/
theorem unpackUndoesPack : Obligations.UnpackUndoesPack := by
  unfold Obligations.UnpackUndoesPack
  intro s h₀ h₁
  have hbyte : (BitVec.ofNat 32 (16 * s.regs.arg0.toNat + s.regs.arg1.toNat)).toNat =
      16 * s.regs.arg0.toNat + s.regs.arg1.toNat := toNat_ofNat_word (by omega)
  refine ⟨_, _, exec_packTbl_of_nibbles h₀ h₁,
    exec_unpackTbl_of_byte (s := State.withArg0 _ _) (hbyte.trans_le (by omega)), rfl, ofNat_eq_word ?_,
    ofNat_eq_word ?_⟩
  · exact (congrArg (· / 16) hbyte).trans (by omega)
  · exact (congrArg (· % 16) hbyte).trans (by omega)

/-- Settles O34: remainder and quotient by 256 of 256 h + l, and 256 (v / 256) + v % 256. -/
theorem splitAndJoinAreInverse : Obligations.SplitAndJoinAreInverse := by
  unfold Obligations.SplitAndJoinAreInverse
  refine ⟨fun s h₀ h₁ => ?_, fun s h => ?_⟩
  · have hhalf : (BitVec.ofNat 32 (256 * s.regs.arg1.toNat + s.regs.arg0.toNat)).toNat =
        256 * s.regs.arg1.toNat + s.regs.arg0.toNat := toNat_ofNat_word (by omega)
    refine ⟨_, _, exec_join16_of_bytes h₀ h₁,
      exec_split16_of_half (s := State.withArg0 _ _) (hhalf.trans_le (by omega)), rfl, ofNat_eq_word ?_,
      ofNat_eq_word ?_⟩
    · exact (congrArg (· % 256) hhalf).trans (by omega)
    · exact (congrArg (· / 256) hhalf).trans (by omega)
  · have hlow : (BitVec.ofNat 32 (s.regs.arg0.toNat % 256)).toNat = s.regs.arg0.toNat % 256 :=
      toNat_ofNat_word (by omega)
    have hhigh : (BitVec.ofNat 32 (s.regs.arg0.toNat / 256)).toNat = s.regs.arg0.toNat / 256 :=
      toNat_ofNat_word (by omega)
    refine ⟨_, _, exec_split16_of_half h,
      exec_join16_of_bytes (s := State.withArgs _ _ _) (hlow.trans_le (by omega)) (hhigh.trans_le (by omega)), rfl,
      ofNat_eq_word ?_⟩
    calc 256 * (BitVec.ofNat 32 (s.regs.arg0.toNat / 256)).toNat + (BitVec.ofNat 32 (s.regs.arg0.toNat % 256)).toNat
      _ = 256 * (s.regs.arg0.toNat / 256) + s.regs.arg0.toNat % 256 := by rw [hhigh, hlow]
      _ = s.regs.arg0.toNat := Nat.div_add_mod ..

/-! ## Words and their bytes (20_memory.md R64, R65) -/

/-- The little-endian word of a list is its bytes as digits in base 256. -/
theorem leWord_eq_ofDigits (bs : List Byte) :
    leWord bs = BitVec.ofNat 32 (Nat.ofDigits 256 (bs.map BitVec.toNat)) := by
  induction bs with
  | nil => rfl
  | cons b bs ih =>
    have hbyte : (b.setWidth 32).toNat = b.toNat := BitVec.toNat_setWidth_of_le (by decide)
    rw [leWord, BitVec.or_comm, shiftLeft_or_eq_ofNat _ (hbyte.trans_lt b.isLt), hbyte, ih, List.map_cons,
      Nat.ofDigits_cons, BitVec.toNat_ofNat]
    refine BitVec.eq_of_toNat_eq ?_
    rw [BitVec.toNat_ofNat, BitVec.toNat_ofNat]
    omega

/-- The digits of a word's n low bytes. -/
theorem ofDigits_leBytes (v : Word) (n : Nat) :
    Nat.ofDigits 256 ((leBytes v n).map BitVec.toNat) = v.toNat % 256 ^ n := by
  induction n with
  | zero => exact (Nat.mod_one _).symm
  | succ n ih =>
    have hsucc : leBytes v (n + 1) = leBytes v n ++ [byteOf v n] := by
      rw [leBytes, List.range_succ, List.map_append, leBytes, List.map_singleton]
    rw [hsucc, List.map_append, Nat.ofDigits_append, ih, List.length_map, leBytes_length, List.map_singleton,
      Nat.ofDigits_singleton, toNat_byteOf, Nat.mod_pow_succ]

/-- A word that fits in n bytes is read back from them. -/
theorem leWord_leBytes {v : Word} {n : Nat} (h : v.toNat < 256 ^ n) : leWord (leBytes v n) = v := by
  rw [leWord_eq_ofDigits, ofDigits_leBytes, Nat.mod_eq_of_lt h]
  exact ofNat_eq_word rfl

theorem beWord_beBytes {v : Word} {n : Nat} (h : v.toNat < 256 ^ n) : beWord (beBytes v n) = v := by
  rw [beWord, beBytes, List.reverse_reverse, leWord_leBytes h]

theorem leWord_pair (b c : Byte) : leWord [b, c] = BitVec.ofNat 32 (b.toNat + 256 * c.toNat) := by
  rw [leWord_eq_ofDigits]
  rfl

theorem beWord_pair (b c : Byte) : beWord [b, c] = BitVec.ofNat 32 (256 * b.toNat + c.toNat) := by
  rw [Nat.add_comm]
  exact leWord_pair c b

theorem leWord_quad (b c d e : Byte) :
    leWord [b, c, d, e] =
      BitVec.ofNat 32 (b.toNat + 256 * c.toNat + 65536 * d.toNat + 16777216 * e.toNat) := by
  have hdigits : Nat.ofDigits 256 [b.toNat, c.toNat, d.toNat, e.toNat] =
      b.toNat + 256 * c.toNat + 65536 * d.toNat + 16777216 * e.toNat := by
    simp only [Nat.ofDigits_cons, Nat.ofDigits_nil]
    omega
  rw [leWord_eq_ofDigits, ← hdigits]
  rfl

/-- R139: the bytes PUT16LE stores are the byte-swapped value, read high byte first. -/
theorem toNat_beWord_leBytes_two {v : Word} (h : v.toNat ≤ 0xFFFF) :
    (beWord (leBytes v 2)).toNat = 256 * (v.toNat % 256) + v.toNat / 256 := by
  change (beWord [byteOf v 0, byteOf v 1]).toNat = _
  rw [beWord_pair, toNat_byteOf, toNat_byteOf, toNat_ofNat_word (by omega)]
  omega

/-! ## Stores (R134, R136, R138) -/

/-- The bytes that PUT16LE or PUT16BE stores at ARG0 and ARG0 + 1. -/
def put16Bytes (i : Instr) (v : Word) : List Byte :=
  [BitVec.ofNat 8 (if i = .put16le then v.toNat else v.toNat / 256),
    BitVec.ofNat 8 (if i = .put16le then v.toNat / 256 else v.toNat)]

theorem leBytes_two (v : Word) : leBytes v 2 = put16Bytes .put16le v := by
  rw [put16Bytes, if_pos rfl, if_pos rfl, ← byteOf_zero_eq_ofNat, ← Nat.pow_one 256, ← byteOf_eq_ofNat]
  rfl

theorem beBytes_two (v : Word) : beBytes v 2 = put16Bytes .put16be v := by
  rw [beBytes, leBytes_two]
  rfl

@[simp] theorem bufByte_complete (s : State) (a : Nat) : bufByte (complete s) a = bufByte s a :=
  bufByte_congr rfl rfl a

/-- The bytes a completed store left are those it was given. -/
theorem memRead_complete_memWrite (s : State) (a : Nat) (bs : List Byte) :
    memRead (complete (memWrite s a bs)) a bs.length = bs :=
  memRead_memWrite s a bs

theorem bufByte_stored (s : State) (a : Nat) (bs : List Byte) {k : Nat} (hk : k < bs.length) :
    bufByte (complete (memWrite s a bs)) (a + k) = bs[k] := by
  rw [bufByte_complete, bufByte_memWrite_inside s a bs hk]

theorem bufByte_stored_outside (s : State) {a c : Nat} {bs : List Byte} (h : c < a ∨ a + bs.length ≤ c) :
    bufByte (complete (memWrite s a bs)) c = bufByte s c := by
  rw [bufByte_complete, bufByte_memWrite_outside s a c bs h]

section Command

variable {s : State}

/-- PUT16LE and PUT16BE differ in the order of the two bytes alone. -/
theorem exec_put16 (s : State) {i : Instr} (hi : i = .put16le ∨ i = .put16be) :
    exec i s = checkSpan s s.regs.arg0.toNat 2 (checkMax s 0xFFFF s.regs.arg1
      (completed (memWrite s s.regs.arg0.toNat (put16Bytes i s.regs.arg1)))) := by
  rcases hi with rfl | rfl
  · rw [← leBytes_two]
    rfl
  · rw [← beBytes_two]
    rfl

theorem exec_put16_of_half {i : Instr} (hi : i = .put16le ∨ i = .put16be)
    (hspan : s.regs.arg0.toNat + 2 ≤ s.cfg.bufSize) (h : s.regs.arg1.toNat ≤ 0xFFFF) :
    exec i s = .next (complete (memWrite s s.regs.arg0.toNat (put16Bytes i s.regs.arg1))) := by
  rw [exec_put16 s hi, checkSpan_pass _ _ _ _ hspan, checkMax_pass _ _ _ _ h, completed_eq]

theorem exec_put32le_of_span (hspan : s.regs.arg0.toNat + 4 ≤ s.cfg.bufSize) :
    exec .put32le s = .next (complete (memWrite s s.regs.arg0.toNat (leBytes s.regs.arg1 4))) :=
  checkSpan_pass _ _ _ _ hspan

/-! ## Loads (R135, R137, R139) -/

theorem exec_get16le_of_span (hspan : s.regs.arg0.toNat + 2 ≤ s.cfg.bufSize) :
    exec .get16le s = .next (okRes0 s (leWord (memRead s s.regs.arg0.toNat 2))) :=
  checkSpan_pass _ _ _ _ hspan

theorem exec_get16be_of_span (hspan : s.regs.arg0.toNat + 2 ≤ s.cfg.bufSize) :
    exec .get16be s = .next (okRes0 s (beWord (memRead s s.regs.arg0.toNat 2))) :=
  checkSpan_pass _ _ _ _ hspan

theorem exec_get32le_of_span (hspan : s.regs.arg0.toNat + 4 ≤ s.cfg.bufSize) :
    exec .get32le s = .next (okRes0 s (leWord (memRead s s.regs.arg0.toNat 4))) :=
  checkSpan_pass _ _ _ _ hspan

end Command

/-- Settles O25: the span and then the value are checked, and the bytes are those of the command's order. -/
theorem put16StoresTwoBytes : Obligations.Put16StoresTwoBytes := by
  unfold Obligations.Put16StoresTwoBytes
  refine ⟨(decode_eq_ok_iff _ .put16le).2 rfl, (decode_eq_ok_iff _ .put16be).2 rfl, fun s i hi => ⟨fun h => ?_,
    fun hspan h => ?_, fun hspan h => ⟨_, exec_put16_of_half hi hspan h, rfl, ?_, ?_,
      fun a ha => bufByte_stored_outside s ha, rfl⟩⟩⟩
  · rw [exec_put16 s hi, checkSpan_eq_outOfRange h]
  · rw [exec_put16 s hi, checkSpan_pass _ _ _ _ hspan, checkMax_eq_outOfRange h]
  · exact bufByte_stored s _ (put16Bytes i s.regs.arg1) (k := 0) Nat.zero_lt_two
  · exact bufByte_stored s _ (put16Bytes i s.regs.arg1) (k := 1) Nat.one_lt_two

/-- Settles O26: only the span is checked. -/
theorem put32leStoresFourBytes : Obligations.Put32leStoresFourBytes := by
  unfold Obligations.Put32leStoresFourBytes
  refine ⟨(decode_eq_ok_iff _ .put32le).2 rfl, fun s => ⟨fun h => checkSpan_eq_outOfRange h _, fun hspan =>
    ⟨_, exec_put32le_of_span hspan, rfl, fun k hk => ?_, fun a ha => bufByte_stored_outside s ha, rfl⟩⟩⟩
  have hlen : k < (leBytes s.regs.arg1 4).length := hk.trans_eq (leBytes_length ..).symm
  rw [bufByte_stored s _ _ hlen, leBytes_getElem, byteOf_eq_ofNat]

/-- Settles O27: the span check passes and the two bytes are digits in base 256, or it raises. -/
theorem get16LoadsTwoBytes : Obligations.Get16LoadsTwoBytes := by
  unfold Obligations.Get16LoadsTwoBytes
  refine ⟨(decode_eq_ok_iff _ .get16le).2 rfl, (decode_eq_ok_iff _ .get16be).2 rfl, fun s i hi h => ?_,
    fun s hspan => ⟨?_, ?_⟩⟩
  · rcases hi with rfl | rfl
    · exact checkSpan_eq_outOfRange h _
    · exact checkSpan_eq_outOfRange h _
  · rw [exec_get16le_of_span hspan, ← leWord_pair]
    rfl
  · rw [exec_get16be_of_span hspan, ← beWord_pair]
    rfl

/-- Settles O28: the span check passes and the four bytes are digits in base 256, or it raises. -/
theorem get32leLoadsFourBytes : Obligations.Get32leLoadsFourBytes := by
  unfold Obligations.Get32leLoadsFourBytes
  refine ⟨(decode_eq_ok_iff _ .get32le).2 rfl, fun s => ⟨fun h => checkSpan_eq_outOfRange h _, fun hspan => ?_⟩⟩
  rw [exec_get32le_of_span hspan, ← leWord_quad]
  rfl

/-- Settles O35: the span read is the span stored, whose word in the same order is ARG1. -/
theorem getReadsWhatPutStored : Obligations.GetReadsWhatPutStored := by
  unfold Obligations.GetReadsWhatPutStored
  intro s
  have hread (bs : List Byte) := memRead_complete_memWrite s s.regs.arg0.toNat bs
  refine ⟨fun hspan h => ⟨_, _, _, exec_put16_of_half (.inl rfl) hspan h, exec_get16le_of_span hspan,
    exec_get16be_of_span hspan, ?_, ?_⟩, fun hspan h => ⟨_, _, exec_put16_of_half (.inr rfl) hspan h,
    exec_get16be_of_span hspan, ?_⟩, fun hspan => ⟨_, _, exec_put32le_of_span hspan, exec_get32le_of_span hspan, ?_⟩⟩
  · rw [← leBytes_two]
    exact (congrArg leWord (hread _)).trans (leWord_leBytes (Nat.lt_succ_of_le h))
  · rw [← leBytes_two]
    exact (congrArg (fun bs => (beWord bs).toNat) (hread _)).trans (toNat_beWord_leBytes_two h)
  · rw [← beBytes_two]
    exact (congrArg beWord (hread _)).trans (beWord_beBytes (Nat.lt_succ_of_le h))
  · exact (congrArg leWord (hread _)).trans (leWord_leBytes s.regs.arg1.isLt)

/-! ## Attenuation code (R140 to R142) -/

theorem attRound_eq {x : Int} {q : Nat} (hx : 0 ≤ x) (hlow : 10 * (q : Int) - 5 ≤ x) (hhigh : x ≤ 10 * (q : Int) + 4) :
    attRound x = q := by
  unfold attRound
  omega

theorem attCode_of_neg {x : Int} (h : x < 0) : attCode x = (0, flagClamped) := by
  rw [attCode, if_neg (by omega), if_pos h]

theorem attCode_of_round_le {x : Int} (hx : 0 ≤ x) (hround : attRound x ≤ 254) (hne : x ≠ 2550) :
    attCode x = (attRound x, 0) := by
  rw [attCode, if_neg hne, if_neg (Int.not_lt.2 hx), if_neg (by omega)]

theorem attCode_of_ge {x : Int} (h : 2545 ≤ x) (hne : x ≠ 2550) : attCode x = (254, flagClamped) := by
  have hround : 255 ≤ attRound x := by
    unfold attRound
    omega
  rw [attCode, if_neg hne, if_neg (by omega), if_pos hround]

theorem attCode_sentinel : attCode 2550 = (255, flagSentinel) := rfl

/-- The clamp keeps every other value below the sentinel. -/
theorem attCode_lt_255 {x : Int} (hne : x ≠ 2550) : (attCode x).1 < 255 := by
  rw [attCode, if_neg hne]
  split_ifs with hneg hround
  · decide
  · decide
  · exact Nat.not_le.1 hround

theorem exec_attEnc (s : State) :
    exec .attEnc s = .next (okRes s (BitVec.ofNat 32 (attCode s.regs.arg0.toInt).1) (attCode s.regs.arg0.toInt).2) :=
  rfl

theorem exec_attEnc_of_attCode {s : State} {q : Nat} {flag : Word} (h : attCode s.regs.arg0.toInt = (q, flag)) :
    exec .attEnc s = .next (okRes s (BitVec.ofNat 32 q) flag) := by
  rw [exec_attEnc, h]

theorem exec_attDec_of_byte {s : State} (h : s.regs.arg0.toNat ≤ 0xFF) :
    exec .attDec s = .next (okRes s (BitVec.ofNat 32 (10 * s.regs.arg0.toNat))
      (if s.regs.arg0.toNat = 255 then flagSentinel else 0)) := by
  rw [Nat.mul_comm]
  exact checkMax_pass _ _ _ _ h

/-- Settles O30: the value check passes, and the sentinel alone is marked; or it raises. -/
theorem attDecMultipliesByTen : Obligations.AttDecMultipliesByTen := by
  unfold Obligations.AttDecMultipliesByTen
  refine ⟨(decode_eq_ok_iff _ .attDec).2 rfl, fun s => ⟨fun h => checkMax_eq_outOfRange h _, fun h => ?_, fun h => ?_⟩⟩
  · rw [exec_attDec_of_byte (by omega), if_neg (by omega)]
  · rw [exec_attDec_of_byte h.le, if_pos h, h]
    rfl

/-- Settles O29: each clause is one case of `attCode`. -/
theorem attEncRoundsClampsAndKeepsTheSentinel : Obligations.AttEncRoundsClampsAndKeepsTheSentinel := by
  unfold Obligations.AttEncRoundsClampsAndKeepsTheSentinel
  refine ⟨(decode_eq_ok_iff _ .attEnc).2 rfl, fun s => ⟨fun h => ?_, fun h => ?_, fun q hq hx hlow hhigh => ?_,
    fun h hne => ?_⟩⟩
  · exact exec_attEnc_of_attCode ((congrArg attCode h).trans attCode_sentinel)
  · exact exec_attEnc_of_attCode (attCode_of_neg h)
  · have hround := attRound_eq hx hlow hhigh
    refine exec_attEnc_of_attCode ?_
    rw [attCode_of_round_le hx (by omega) (by omega), hround]
  · exact exec_attEnc_of_attCode (attCode_of_ge h hne)

theorem attCode_ten_mul {k : Nat} (h : k ≤ 255) : (attCode (10 * k : Nat)).1 = k := by
  rcases Nat.lt_or_eq_of_le h with hlt | rfl
  · have hround : attRound (10 * k : Nat) = k := attRound_eq (by omega) (by omega) (by omega)
    rw [attCode_of_round_le (by omega) (by omega) (by omega), hround]
  · exact congrArg Prod.fst attCode_sentinel

/-- Settles O36: ten times a code rounds to that code, and 255 stands for 2550 alone. -/
theorem attCodesComeBackAndTheSentinelIsExact : Obligations.AttCodesComeBackAndTheSentinelIsExact := by
  unfold Obligations.AttCodesComeBackAndTheSentinelIsExact
  refine ⟨fun s h => ⟨_, _, exec_attDec_of_byte h, exec_attEnc (State.withArg0 _ _), ofNat_eq_word ?_⟩, fun s =>
    ⟨_, exec_attEnc s, ?_⟩⟩
  · have hnat : (BitVec.ofNat 32 (10 * s.regs.arg0.toNat)).toNat = 10 * s.regs.arg0.toNat :=
      toNat_ofNat_word (by omega)
    have hint : (BitVec.ofNat 32 (10 * s.regs.arg0.toNat)).toInt = (10 * s.regs.arg0.toNat : Nat) := by
      rw [BitVec.toInt_eq_toNat_of_lt (by omega), hnat]
    exact (congrArg (fun x => (attCode x).1) hint).trans (attCode_ten_mul h)
  · by_cases hx : s.regs.arg0.toInt = 2550
    · rw [hx, attCode_sentinel]
      exact ⟨iff_of_true rfl rfl, le_of_eq rfl⟩
    · have hlt := attCode_lt_255 hx
      have hcode : (BitVec.ofNat 32 (attCode s.regs.arg0.toInt).1).toNat = (attCode s.regs.arg0.toInt).1 :=
        toNat_ofNat_word (by omega)
      refine ⟨iff_of_false (fun h255 => ?_) hx, hcode.trans_le hlt.le⟩
      exact hlt.ne (hcode.symm.trans (congrArg BitVec.toNat h255))

/-! ## Step scaling (R143 to R145) -/

theorem scaleRound_natCast (m step : Nat) : scaleRound m step = ((2 * m + step) / (2 * step) : Nat) := by
  rw [scaleRound, if_neg (by omega), Int.natAbs_natCast]

/-- Rounding is symmetric about 0: ties go away from it on both sides. -/
theorem scaleRound_neg (v : Int) {step : Nat} (hstep : 0 < step) : scaleRound (-v) step = -scaleRound v step := by
  have hzero : (2 * (0 : Int).natAbs + step) / (2 * step) = 0 := Nat.div_eq_of_lt (by omega)
  unfold scaleRound
  rw [Int.natAbs_neg]
  rcases lt_trichotomy v 0 with hv | rfl | hv
  · rw [if_neg (by omega), if_pos hv, Int.neg_neg]
  · rw [hzero]
    rfl
  · rw [if_pos (by omega), if_neg (by omega)]

/-- The count times the step, against the value, without division. -/
theorem scaleRound_natCast_mul_bounds (m : Nat) {step : Nat} (hstep : 0 < step) :
    2 * (scaleRound m step * step) ≤ 2 * m + step ∧ 2 * (m : Int) < 2 * (scaleRound m step * step) + step := by
  have hdiv := Nat.div_add_mod (2 * m + step) (2 * step)
  have hmod := Nat.mod_lt (2 * m + step) (Nat.mul_pos Nat.two_pos hstep)
  rw [Nat.mul_assoc, Nat.mul_comm step] at hdiv
  rw [scaleRound_natCast, ← Int.natCast_mul]
  omega

/-- q is a count of steps nearest to v, and of two nearest the one further from 0 (R144). -/
def IsNearestCount (v : Int) (step : Nat) (q : Int) : Prop :=
  2 * |q * step - v| ≤ step ∧ (2 * |q * step - v| = step → |v| < |q * step|)

theorem IsNearestCount.neg {v q : Int} {step : Nat} (h : IsNearestCount v step q) : IsNearestCount (-v) step (-q) := by
  unfold IsNearestCount at h ⊢
  rwa [Int.neg_mul, ← neg_sub', abs_neg, abs_neg, abs_neg]

theorem isNearestCount_scaleRound_natCast (m : Nat) {step : Nat} (hstep : 0 < step) :
    IsNearestCount m step (scaleRound m step) := by
  obtain ⟨hle, hlt⟩ := scaleRound_natCast_mul_bounds m hstep
  have hpos : 0 ≤ scaleRound m step * step := by
    rw [scaleRound_natCast, ← Int.natCast_mul]
    exact Int.natCast_nonneg _
  rw [IsNearestCount, abs_of_nonneg hpos, Nat.abs_cast]
  rcases abs_cases (scaleRound m step * step - m : Int) with ⟨habove, -⟩ | ⟨hbelow, -⟩
  · rw [habove]
    omega
  · rw [hbelow]
    omega

theorem isNearestCount_scaleRound (v : Int) {step : Nat} (hstep : 0 < step) :
    IsNearestCount v step (scaleRound v step) := by
  obtain ⟨m, rfl | rfl⟩ := Int.eq_nat_or_neg v
  · exact isNearestCount_scaleRound_natCast m hstep
  · rw [scaleRound_neg _ hstep]
    exact (isNearestCount_scaleRound_natCast m hstep).neg

/-- A step is at least 1, so the count is no further from 0 than the value. -/
theorem scaleRound_natCast_le (m : Nat) {step : Nat} (hstep : 0 < step) :
    0 ≤ scaleRound m step ∧ scaleRound m step ≤ m := by
  have hle : (2 * m + step) / (2 * step) ≤ m := Nat.le_of_lt_succ ((Nat.div_lt_iff_lt_mul (by omega)).2
    (by linarith [Nat.le_mul_of_pos_right m hstep]))
  rw [scaleRound_natCast]
  exact ⟨Int.natCast_nonneg _, Int.ofNat_le.2 hle⟩

theorem scaleRound_fits {v : Int} {step : Nat} (hstep : 0 < step) (hlow : -2 ^ 31 ≤ v) (hhigh : v < 2 ^ 31) :
    -2 ^ 31 ≤ scaleRound v step ∧ scaleRound v step < 2 ^ 31 := by
  obtain ⟨m, rfl | rfl⟩ := Int.eq_nat_or_neg v
  · have hm := scaleRound_natCast_le m hstep
    omega
  · have hm := scaleRound_natCast_le m hstep
    rw [scaleRound_neg _ hstep]
    omega

/-- The count gives the value back exactly when the value is a multiple of the step. -/
theorem scaleRound_mul_eq_iff (v : Int) {step : Nat} (hstep : 0 < step) :
    scaleRound v step * step = v ↔ (step : Int) ∣ v := by
  constructor
  · exact Dvd.intro_left _
  · intro hdvd
    obtain ⟨hnear, -⟩ := isNearestCount_scaleRound v hstep
    exact Int.sub_eq_zero.1 (Int.eq_zero_of_abs_lt_dvd (Int.dvd_sub (Int.dvd_mul_left ..) hdvd) (by omega))

theorem flagInexact_natAbs (v : Int) (step : Nat) :
    flagInexact v.natAbs step = if (step : Int) ∣ v then 0 else 1 := by
  rw [flagInexact, ite_not]
  exact if_congr (Nat.dvd_iff_mod_eq_zero.symm.trans Int.natCast_dvd.symm) rfl rfl

section Command

variable {s : State}

theorem exec_scale_of_zero (h : s.regs.stepSize.toNat = 0) : exec .scale s = .next (outOfRange s 1 0) :=
  if_pos (BitVec.eq_of_toNat_eq h)

theorem exec_scale_of_pos (h : 0 < s.regs.stepSize.toNat) :
    exec .scale s = .next (okRes s (BitVec.ofInt 32 (scaleRound s.regs.arg0.toInt s.regs.stepSize.toNat))
      (if (s.regs.stepSize.toNat : Int) ∣ s.regs.arg0.toInt then 0 else 1)) := by
  rw [← flagInexact_natAbs]
  exact if_neg fun hzero => h.ne' (congrArg BitVec.toNat hzero)

theorem scaleRound_arg0_fits (h : 0 < s.regs.stepSize.toNat) :
    -2 ^ 31 ≤ scaleRound s.regs.arg0.toInt s.regs.stepSize.toNat ∧
      scaleRound s.regs.arg0.toInt s.regs.stepSize.toNat < 2 ^ 31 :=
  scaleRound_fits h (BitVec.le_toInt _) BitVec.toInt_lt

theorem exec_unscale_of_fits (hlow : -2 ^ 31 ≤ s.regs.arg0.toInt * s.regs.stepSize.toNat)
    (hhigh : s.regs.arg0.toInt * s.regs.stepSize.toNat < 2 ^ 31) :
    exec .unscale s = .next (okRes0 s (BitVec.ofInt 32 (s.regs.arg0.toInt * s.regs.stepSize.toNat))) :=
  if_neg (not_or.2 ⟨Int.not_lt.2 (Int.le_sub_one_of_lt hhigh), Int.not_lt.2 hlow⟩)

theorem exec_unscale_of_overflow (h : s.regs.arg0.toInt * s.regs.stepSize.toNat < -2 ^ 31 ∨
      2 ^ 31 ≤ s.regs.arg0.toInt * s.regs.stepSize.toNat) :
    exec .unscale s = .next (failState s 2 0x7FFFFFFF
      (BitVec.ofInt 32 (s.regs.arg0.toInt * s.regs.stepSize.toNat))) :=
  if_pos (h.symm.imp_left Int.sub_one_lt_of_le)

end Command

/-- Settles O31: the count is nearest, and no further from 0 than ARG0, so that it fits. -/
theorem scaleRoundsToTheNearestStep : Obligations.ScaleRoundsToTheNearestStep := by
  unfold Obligations.ScaleRoundsToTheNearestStep
  refine ⟨(decode_eq_ok_iff _ .scale).2 rfl, fun s => ⟨exec_scale_of_zero, fun h => ?_⟩⟩
  have hpos := Nat.pos_of_ne_zero h
  obtain ⟨hlow, hhigh⟩ := scaleRound_arg0_fits hpos
  exact ⟨_, exec_scale_of_pos hpos, hlow, hhigh, isNearestCount_scaleRound _ hpos⟩

/-- Settles O32: a product that fits is read back from its word, and any other raises. -/
theorem unscaleMultipliesOrRaises : Obligations.UnscaleMultipliesOrRaises := by
  unfold Obligations.UnscaleMultipliesOrRaises
  exact ⟨(decode_eq_ok_iff _ .unscale).2 rfl, fun s =>
    ⟨fun hlow hhigh => ⟨_, exec_unscale_of_fits hlow hhigh, rfl, BitVec.toInt_ofInt_eq_self (by decide) hlow hhigh⟩,
      exec_unscale_of_overflow⟩⟩

/-- UNSCALE answers v, as a success, exactly when v is the product. -/
theorem exec_unscale_answers_iff (s : State) (v : Word) :
    ∃ u, exec .unscale s = .next u ∧
      ((u.regs.status.errCode = 0 ∧ u.regs.res0 = v) ↔ s.regs.arg0.toInt * s.regs.stepSize.toNat = v.toInt) := by
  by_cases hfits : -2 ^ 31 ≤ s.regs.arg0.toInt * s.regs.stepSize.toNat ∧
      s.regs.arg0.toInt * s.regs.stepSize.toNat < 2 ^ 31
  · obtain ⟨hlow, hhigh⟩ := hfits
    refine ⟨_, exec_unscale_of_fits hlow hhigh, (and_iff_right rfl).trans ?_⟩
    have hprod := BitVec.toInt_ofInt_eq_self (w := 32) (by decide) hlow hhigh
    exact BitVec.toInt_inj.symm.trans (iff_of_eq (congrArg (· = v.toInt) hprod))
  · refine ⟨_, exec_unscale_of_overflow (by omega), iff_of_false (fun ⟨hcode, _⟩ => ?_) fun hprod => hfits ?_⟩
    · exact absurd hcode (by decide : (2 : BitVec 4) ≠ 0)
    · rw [hprod]
      exact ⟨BitVec.le_toInt v, BitVec.toInt_lt⟩

/-- Settles O37: UNSCALE gives the value back exactly when count times step is the value, that is, when STEP
divides it. -/
theorem unscaleUndoesScaleExactlyWhenExact : Obligations.UnscaleUndoesScaleExactlyWhenExact := by
  unfold Obligations.UnscaleUndoesScaleExactlyWhenExact
  intro s h
  have hpos := Nat.pos_of_ne_zero h
  obtain ⟨hlow, hhigh⟩ := scaleRound_arg0_fits hpos
  obtain ⟨u, hunscale, hiff⟩ := exec_unscale_answers_iff (State.withArg0 (okRes s _ _)
    (BitVec.ofInt 32 (scaleRound s.regs.arg0.toInt s.regs.stepSize.toNat))) s.regs.arg0
  refine ⟨_, u, exec_scale_of_pos hpos, hunscale, hiff.trans ?_⟩
  have hcount : (BitVec.ofInt 32 (scaleRound s.regs.arg0.toInt s.regs.stepSize.toNat)).toInt =
      scaleRound s.regs.arg0.toInt s.regs.stepSize.toNat := BitVec.toInt_ofInt_eq_self (by decide) hlow hhigh
  calc (BitVec.ofInt 32 (scaleRound s.regs.arg0.toInt s.regs.stepSize.toNat)).toInt * s.regs.stepSize.toNat =
        s.regs.arg0.toInt
    _ ↔ (s.regs.stepSize.toNat : Int) ∣ s.regs.arg0.toInt := by rw [hcount, scaleRound_mul_eq_iff _ hpos]
    _ ↔ (if (s.regs.stepSize.toNat : Int) ∣ s.regs.arg0.toInt then (0 : Word) else 1) = 0 := by
      split_ifs with hdvd
      · exact iff_of_true hdvd rfl
      · exact iff_of_false hdvd (by decide)

end Sys2Proof.Machine
end

section
/-! SUPPORT. The frame builder (42_frame_builder.md): a frame's bytes in both formats (R180 to R186), the commands'
results step by step (R187, R188), the laws of a frame read back from BUF (R189), and PARSE of such a frame
(43_response_validator.md R219). -/

namespace Sys2Proof.Machine

/-! ## Fields as bytes (42_frame_builder.md R181, R183) -/

theorem extractLsb'_eq_ofNat {w : Nat} (v : BitVec w) (k n : Nat) :
    v.extractLsb' k n = BitVec.ofNat n (v.toNat / 2 ^ k) := by
  rw [BitVec.extractLsb', Nat.shiftRight_eq_div_pow]

theorem extractLsb'_zero_eq_ofNat {w : Nat} (v : BitVec w) (n : Nat) : v.extractLsb' 0 n = BitVec.ofNat n v.toNat := by
  rw [extractLsb'_eq_ofNat, Nat.pow_zero, Nat.div_one]

/-- A 16-bit field, high byte first. -/
theorem halfBE_eq (v : Half) : halfBE v = [BitVec.ofNat 8 (v.toNat / 256), BitVec.ofNat 8 v.toNat] := by
  rw [halfBE, extractLsb'_eq_ofNat v 8, extractLsb'_zero_eq_ofNat]
  rfl

/-- A 16-bit field, low byte first. -/
theorem halfLE_eq (v : Half) : halfLE v = [BitVec.ofNat 8 v.toNat, BitVec.ofNat 8 (v.toNat / 256)] := by
  rw [halfLE, extractLsb'_eq_ofNat v 8, extractLsb'_zero_eq_ofNat]
  rfl

/-- A number's two low bytes, high byte first; what does not fit in 16 bits is lost. -/
theorem halfBE_ofNat (n : Nat) : halfBE (BitVec.ofNat 16 n) = [BitVec.ofNat 8 (n / 256), BitVec.ofNat 8 n] := by
  have hhigh : BitVec.ofNat 8 (n % 2 ^ 16 / 256) = BitVec.ofNat 8 (n / 256) := by
    refine BitVec.eq_of_toNat_eq ?_
    rw [BitVec.toNat_ofNat, BitVec.toNat_ofNat]
    omega
  have hlow : BitVec.ofNat 8 (n % 2 ^ 16) = BitVec.ofNat 8 n := by
    refine BitVec.eq_of_toNat_eq ?_
    rw [BitVec.toNat_ofNat, BitVec.toNat_ofNat]
    omega
  rw [halfBE_eq, BitVec.toNat_ofNat, hhigh, hlow]

/-- The bytes of a 16-bit value, joined. -/
theorem extractLsb'_append_self (k : Half) : k.extractLsb' 8 8 ++ k.extractLsb' 0 8 = k := by
  refine BitVec.eq_of_toNat_eq ?_
  rw [toNat_append_eq_add, BitVec.extractLsb'_toNat, BitVec.extractLsb'_toNat, Nat.shiftRight_eq_div_pow]
  omega

/-- A byte widened to a 16-bit checksum, and its low byte taken. -/
theorem extractLsb'_setWidth_self (b : Byte) : (b.setWidth 16).extractLsb' 0 8 = b := by
  rw [extractLsb'_zero_eq_ofNat, BitVec.toNat_setWidth_of_le (by decide), BitVec.ofNat_toNat, BitVec.setWidth_eq]

/-! ## A frame's parts in each format (42_frame_builder.md R181 to R186) -/

section Layout

variable {r : Regs} (p : List Byte)

theorem frameOverhead_eq (r : Regs) : frameOverhead r = 5 + 2 * fieldWidth r := by
  unfold frameOverhead fieldWidth; split <;> rfl

theorem checkedSpan_length (r : Regs) (p : List Byte) :
    (checkedSpan r p).length = 1 + fieldWidth r + (frameBody r p).length := by
  rw [checkedSpan, List.length_append, List.length_append, lengthField_length, List.length_singleton]

theorem fieldWidth_short (hshort : isLong r = false) : fieldWidth r = 1 := by rw [fieldWidth, hshort]; rfl

theorem fieldWidth_long (hlong : isLong r = true) : fieldWidth r = 2 := by rw [fieldWidth, if_pos hlong]

theorem lengthField_short (hshort : isLong r = false) (n : Nat) : lengthField r n = [BitVec.ofNat 8 n] := by
  rw [lengthField, hshort]; rfl

theorem lengthField_long (hlong : isLong r = true) (n : Nat) :
    lengthField r n = [BitVec.ofNat 8 (n / 256), BitVec.ofNat 8 n] := by
  rw [lengthField, if_pos hlong, halfBE_ofNat]

theorem commandField_short (hshort : isLong r = false) : commandField r = [BitVec.ofNat 8 r.descCmd.toNat] := by
  rw [commandField, hshort, extractLsb'_zero_eq_ofNat]; rfl

theorem commandField_long (hlong : isLong r = true) :
    commandField r = [BitVec.ofNat 8 ((commandWord r).toNat / 256), BitVec.ofNat 8 (commandWord r).toNat] := by
  rw [commandField, if_pos hlong, halfBE_eq]

theorem checkedSpan_short (hshort : isLong r = false) :
    checkedSpan r p = [r.descMsgid, BitVec.ofNat 8 (1 + (tableField r).length + p.length),
      BitVec.ofNat 8 r.descCmd.toNat] ++ tableField r ++ p := by
  rw [checkedSpan, frameBody_length, fieldWidth_short hshort, lengthField_short hshort, frameBody,
    commandField_short hshort, tableField_length]
  rfl

theorem checkedSpan_long (hlong : isLong r = true) :
    checkedSpan r p = [r.descMsgid, BitVec.ofNat 8 ((2 + (tableField r).length + p.length) / 256),
      BitVec.ofNat 8 (2 + (tableField r).length + p.length), BitVec.ofNat 8 ((commandWord r).toNat / 256),
      BitVec.ofNat 8 (commandWord r).toNat] ++ tableField r ++ p := by
  rw [checkedSpan, frameBody_length, fieldWidth_long hlong, lengthField_long hlong, frameBody,
    commandField_long hlong, tableField_length]
  rfl

theorem checksumOf_short (hshort : isLong r = false) (span : List Byte) :
    checksumOf r span = (xor8 span).setWidth 16 := by
  rw [checksumOf, hshort]; rfl

theorem checksumOf_long (hlong : isLong r = true) (span : List Byte) : checksumOf r span = crcOf r span := by
  rw [checksumOf, if_pos hlong]

theorem checksumField_short (hshort : isLong r = false) (b : Byte) : checksumField r (b.setWidth 16) = [b] := by
  rw [checksumField, hshort, extractLsb'_setWidth_self]; rfl

theorem checksumField_long (hlong : isLong r = true) (k : Half) : checksumField r k = halfLE k := by
  rw [checksumField, if_pos hlong]

theorem composeFrame_short (hshort : isLong r = false) :
    composeFrame r p = startMarker ++ checkedSpan r p ++ [xor8 (checkedSpan r p)] ++ stopMarker := by
  rw [composeFrame, checksumOf_short hshort, checksumField_short hshort]

theorem composeFrame_long (hlong : isLong r = true) :
    composeFrame r p = startMarker ++ checkedSpan r p ++ halfLE (crcOf r (checkedSpan r p)) ++ stopMarker := by
  rw [composeFrame, checksumOf_long hlong, checksumField_long hlong]

end Layout

/-- Settles O38: the parts of the frame in each format, written out. -/
theorem composedFrameLayout : Obligations.ComposedFrameLayout := by
  unfold Obligations.ComposedFrameLayout
  rintro r p tb rfl
  refine ⟨fun hshort => ?_, fun hlong cw k hcw hk => ?_⟩
  · rw [composeFrame_short p hshort, checkedSpan_short p hshort]
    simp [startMarker, stopMarker, tableField, hasTable]
  · obtain rfl : cw = commandWord r := hcw
    obtain rfl : k = crcOf r (checkedSpan r p) := hk.trans (congrArg (crcOf r) (checkedSpan_long p hlong).symm)
    rw [composeFrame_long p hlong, halfLE_eq, checkedSpan_long p hlong]
    simp [startMarker, stopMarker, tableField, hasTable]

/-! ## The commands: one equation per outcome (42_frame_builder.md R187, R188) -/

/-- The frame of n counted bytes passes the builder's last three checks: the length field, FRAME_MAX and BUF hold it. -/
structure FrameFits (s : State) (n : Nat) : Prop where
  length : n ≤ lengthMax s.regs
  frameMax : frameOverhead s.regs + n ≤ s.regs.frameMax.toNat
  span : s.regs.txOff.toNat + (frameOverhead s.regs + n) ≤ s.cfg.bufSize

/-- s after a success that wrote a payload's frame at TX_OFF, n being its length field. -/
def State.withFrame (s : State) (n : Nat) (payload : List Byte) : State :=
  complete (memWrite { s with regs :=
    { s.regs with
      txLen := BitVec.ofNat 16 (frameOverhead s.regs + n)
      res0 := u32 n
      res1 := (checksumOf s.regs (checkedSpan s.regs payload)).setWidth 32 } }
    s.regs.txOff.toNat (composeFrame s.regs payload))

section Command

variable {s : State} {n : Nat}

theorem emitFrame_of_lengthMax_lt (payload : List Byte) (h : lengthMax s.regs < n) :
    emitFrame s n payload = .next (payloadTooLarge s (lengthMax s.regs) n) :=
  if_pos h

theorem emitFrame_of_frameMax_lt (payload : List Byte) (hmax : n ≤ lengthMax s.regs)
    (h : s.regs.frameMax.toNat < frameOverhead s.regs + n) :
    emitFrame s n payload = .next (payloadTooLarge s s.regs.frameMax.toNat (frameOverhead s.regs + n)) := by
  rw [payloadTooLarge, BitVec.ofNat_toNat]
  exact (if_neg (Nat.not_lt.2 hmax)).trans (if_pos h)

theorem emitFrame_of_bufSize_lt (payload : List Byte) (hmax : n ≤ lengthMax s.regs)
    (hframe : frameOverhead s.regs + n ≤ s.regs.frameMax.toNat)
    (h : s.cfg.bufSize < s.regs.txOff.toNat + (frameOverhead s.regs + n)) :
    emitFrame s n payload =
      .next (outOfRange s s.cfg.bufSize (s.regs.txOff.toNat + (frameOverhead s.regs + n))) :=
  ((if_neg (Nat.not_lt.2 hmax)).trans (if_neg (Nat.not_lt.2 hframe))).trans (checkSpan_eq_outOfRange h _)

theorem emitFrame_of_fits (payload : List Byte) (h : FrameFits s n) :
    emitFrame s n payload = .next (s.withFrame n payload) :=
  ((if_neg (Nat.not_lt.2 h.length)).trans (if_neg (Nat.not_lt.2 h.frameMax))).trans (checkSpan_pass _ _ _ _ h.span)

end Command

/-- What BUILD's steps 3 to 5 and BUILD_REC's steps 4 to 6 do in the statements' words, n being the length field's value
and tot the frame's length. -/
theorem emitFrame_follows_steps (s : State) {n max tot : Nat} {payload : List Byte}
    (hn : n = fieldWidth s.regs + tableWidth s.regs + payload.length) (hmax : max = lengthMax s.regs)
    (htot : tot = frameOverhead s.regs + n) :
    (max < n → emitFrame s n payload = .next (payloadTooLarge s max n)) ∧
    (n ≤ max → s.regs.frameMax.toNat < tot →
      emitFrame s n payload = .next (payloadTooLarge s s.regs.frameMax.toNat tot)) ∧
    (n ≤ max → tot ≤ s.regs.frameMax.toNat → s.cfg.bufSize < s.regs.txOff.toNat + tot →
      emitFrame s n payload = .next (outOfRange s s.cfg.bufSize (s.regs.txOff.toNat + tot))) ∧
    (n ≤ max → tot ≤ s.regs.frameMax.toNat → s.regs.txOff.toNat + tot ≤ s.cfg.bufSize →
      ∃ t, emitFrame s n payload = .next t ∧
        memRead t s.regs.txOff.toNat tot = composeFrame s.regs payload ∧
        t.regs = { okRegs s with
          txLen := BitVec.ofNat 16 tot
          res0 := BitVec.ofNat 32 n
          res1 := (checksumOf s.regs (checkedSpan s.regs payload)).setWidth 32 } ∧
        (∀ a, a < s.regs.txOff.toNat ∨ s.regs.txOff.toNat + tot ≤ a → bufByte t a = bufByte s a) ∧
        { t with regs := s.regs, buf := s.buf } = s) := by
  have hlen : tot = (composeFrame s.regs payload).length := by rw [htot, hn, composeFrame_length]
  refine ⟨?_, ?_, ?_, fun h₁ h₂ h₃ => ⟨s.withFrame n payload, ?_, ?_, ?_, fun a ha => ?_, rfl⟩⟩
  · rw [hmax]
    exact emitFrame_of_lengthMax_lt payload
  · rw [hmax, htot]
    exact emitFrame_of_frameMax_lt payload
  · rw [hmax, htot]
    exact emitFrame_of_bufSize_lt payload
  · rw [hmax] at h₁
    rw [htot] at h₂ h₃
    exact emitFrame_of_fits payload ⟨h₁, h₂, h₃⟩
  · rw [hlen]
    exact memRead_complete_memWrite _ _ _
  · rw [htot]
    rfl
  · rw [hlen] at ha
    exact bufByte_stored_outside _ ha

section Command

variable {s : State}

theorem exec_build_of_wide_command (hshort : isLong s.regs = false) (h : 0xFF < s.regs.descCmd.toNat) :
    exec .build s = .next (outOfRange s 0xFF s.regs.descCmd.toNat) := by
  have hwide : (!isLong s.regs && decide (0xFF < s.regs.descCmd.toNat)) = true := by rw [hshort, decide_eq_true h]; rfl
  rw [outOfRange, BitVec.ofNat_toNat]
  exact if_pos hwide

/-- Past step 1, BUILD is its payload's span check and the builder's tail. -/
theorem exec_build_of_command_fits (h : isLong s.regs = true ∨ s.regs.descCmd.toNat ≤ 0xFF) :
    exec .build s = checkSpan s s.regs.payOff.toNat s.regs.payLen.toNat
      (emitFrame s (buildLength s.regs) (memRead s s.regs.payOff.toNat s.regs.payLen.toNat)) := by
  refine if_neg fun hwide => ?_
  obtain ⟨hshort, hlt⟩ := Bool.and_eq_true_iff.1 hwide
  rcases h with hlong | hle
  · rw [hlong] at hshort
    cases hshort
  · exact absurd (of_decide_eq_true hlt) (Nat.not_lt.2 hle)

theorem exec_buildRec_of_short (hshort : isLong s.regs = false) : exec .buildRec s = .next (failState s 10 1 0) :=
  if_pos (by rw [hshort]; rfl)

theorem exec_buildRec_of_portCnt_ne (hlong : isLong s.regs = true) (h : s.regs.portCnt ≠ s.regs.chCnt) :
    exec .buildRec s = .next (failState s 1 (s.regs.chCnt.setWidth 32) (s.regs.portCnt.setWidth 32)) :=
  (if_neg (by rw [hlong]; decide)).trans (if_pos h)

theorem exec_buildRec_of_attCnt_ne (hlong : isLong s.regs = true) (hport : s.regs.portCnt = s.regs.chCnt)
    (h : s.regs.attCnt ≠ s.regs.chCnt) :
    exec .buildRec s = .next (failState s 1 (s.regs.chCnt.setWidth 32) (s.regs.attCnt.setWidth 32)) :=
  ((if_neg (by rw [hlong]; decide)).trans (if_neg (not_not.2 hport))).trans (if_pos h)

/-- Past steps 1 and 2, BUILD_REC is its arrays' span checks and the builder's tail. -/
theorem exec_buildRec_of_counts (hlong : isLong s.regs = true) (hport : s.regs.portCnt = s.regs.chCnt)
    (hatt : s.regs.attCnt = s.regs.chCnt) :
    exec .buildRec s = checkSpan s s.regs.chOff.toNat s.regs.chCnt.toNat
      (checkSpan s s.regs.portOff.toNat s.regs.chCnt.toNat
        (checkSpan s s.regs.attOff.toNat s.regs.chCnt.toNat
          (emitFrame s (buildRecLength s.regs) (recordPayload s s.regs.chCnt.toNat)))) :=
  ((if_neg (by rw [hlong]; decide)).trans (if_neg (not_not.2 hport))).trans (if_neg (not_not.2 hatt))

end Command

/-- The length field's value counts the body of the frame BUILD writes. -/
theorem buildLength_eq (s : State) : buildLength s.regs =
    fieldWidth s.regs + tableWidth s.regs + (memRead s s.regs.payOff.toNat s.regs.payLen.toNat).length := by
  rw [memRead_length, buildLength]

/-- The length field's value counts the body of the frame BUILD_REC writes. -/
theorem buildRecLength_eq {s : State} (hlong : isLong s.regs = true) : buildRecLength s.regs =
    fieldWidth s.regs + tableWidth s.regs + (recordPayload s s.regs.chCnt.toNat).length := by
  rw [recordPayload_length, fieldWidth_long hlong, buildRecLength]

/-- Settles O39: the command check and the payload's span check, then the builder's tail. -/
theorem buildFollowsItsSteps : Obligations.BuildFollowsItsSteps := by
  unfold Obligations.BuildFollowsItsSteps
  refine ⟨(decode_eq_ok_iff _ .build).2 rfl, fun s n max tot hn hmax htot =>
    ⟨exec_build_of_wide_command, fun hcmd => ⟨fun h => ?_, fun hspan => ?_⟩⟩⟩
  · rw [exec_build_of_command_fits hcmd, checkSpan_eq_outOfRange h]
  · obtain rfl : n = buildLength s.regs := hn
    rw [exec_build_of_command_fits hcmd, checkSpan_pass _ _ _ _ hspan]
    exact emitFrame_follows_steps s (buildLength_eq s) hmax htot

/-- Settles O40: the format, the counts and the arrays' spans are checked, then the builder's tail. -/
theorem buildRecFollowsItsSteps : Obligations.BuildRecFollowsItsSteps := by
  unfold Obligations.BuildRecFollowsItsSteps
  refine ⟨(decode_eq_ok_iff _ .buildRec).2 rfl, ?_⟩
  rintro s m n tot p rfl hn htot hp
  refine ⟨exec_buildRec_of_short, fun hlong => ⟨fun h => ?_, fun hport h => ?_, fun hport hatt => ?_⟩⟩
  · rw [BitVec.ofNat_toNat]
    exact exec_buildRec_of_portCnt_ne hlong fun heq => h (congrArg BitVec.toNat heq)
  · rw [BitVec.ofNat_toNat]
    exact exec_buildRec_of_attCnt_ne hlong (BitVec.eq_of_toNat_eq hport) fun heq => h (congrArg BitVec.toNat heq)
  rw [exec_buildRec_of_counts hlong (BitVec.eq_of_toNat_eq hport) (BitVec.eq_of_toNat_eq hatt)]
  refine ⟨fun h => checkSpan_eq_outOfRange h _, fun hch h => ?_, fun hch hpo h => ?_, fun hch hpo hat => ?_⟩
  · rw [checkSpan_pass _ _ _ _ hch, checkSpan_eq_outOfRange h]
  · rw [checkSpan_pass _ _ _ _ hch, checkSpan_pass _ _ _ _ hpo, checkSpan_eq_outOfRange h]
  · rw [checkSpan_pass _ _ _ _ hch, checkSpan_pass _ _ _ _ hpo, checkSpan_pass _ _ _ _ hat]
    obtain rfl : n = buildRecLength s.regs := hn
    obtain rfl : p = recordPayload s s.regs.chCnt.toNat := hp
    have hmax : 0xFFFF = lengthMax s.regs := (if_pos hlong).symm
    have hoverhead : frameOverhead s.regs = 9 := if_pos hlong
    rw [← hoverhead] at htot
    exact emitFrame_follows_steps s (buildRecLength_eq hlong) hmax htot

/-! ## Bytes read back from BUF -/

/-- BUF holds these bytes from an offset on. -/
def HoldsAt (s : State) (a : Nat) (bs : List Byte) : Prop := memRead s a bs.length = bs

theorem HoldsAt.memRead_eq {s : State} {a n : Nat} {bs : List Byte} (h : HoldsAt s a bs) (hn : n = bs.length) :
    memRead s a n = bs := by
  rw [hn]
  exact h

theorem holdsAt_append_iff (s : State) (a : Nat) (l m : List Byte) :
    HoldsAt s a (l ++ m) ↔ HoldsAt s a l ∧ HoldsAt s (a + l.length) m := by
  unfold HoldsAt
  rw [List.length_append, memRead_append]
  constructor
  · exact fun h => List.append_inj h (memRead_length ..)
  · rintro ⟨hl, hm⟩
    rw [hl, hm]

theorem holdsAt_cons_iff (s : State) (a : Nat) (b : Byte) (bs : List Byte) :
    HoldsAt s a (b :: bs) ↔ bufByte s a = b ∧ HoldsAt s (a + 1) bs := by
  have hone : HoldsAt s a [b] ↔ bufByte s a = b := by simp [HoldsAt, memRead]
  rw [← hone]
  exact holdsAt_append_iff s a [b] bs

theorem holdsAt_pair_iff (s : State) (a : Nat) (b c : Byte) :
    HoldsAt s a [b, c] ↔ bufByte s a = b ∧ bufByte s (a + 1) = c := by
  have hnil : HoldsAt s (a + 1 + 1) [] := rfl
  rw [holdsAt_cons_iff, holdsAt_cons_iff, and_iff_left hnil]

/-! ## The laws of a frame in BUF (42_frame_builder.md R189) -/

/-- A frame is its body and the five bytes and two fields around it (R181). -/
theorem composeFrame_length_eq (r : Regs) (p : List Byte) :
    (composeFrame r p).length = 5 + 2 * fieldWidth r + (frameBody r p).length := by
  rw [composeFrame_length, frameOverhead_eq, frameBody_length]

section FrameInBuf

variable {t : State} {r : Regs} {a tot : Nat} {p : List Byte} (hframe : HoldsAt t a (composeFrame r p))
  (htot : tot = (composeFrame r p).length)
include hframe

/-- A frame's four parts, one after the other. -/
theorem holdsAt_frame_parts :
    HoldsAt t a startMarker ∧ HoldsAt t (a + 2) (checkedSpan r p) ∧
      HoldsAt t (a + (2 + (checkedSpan r p).length)) (checksumField r (checksumOf r (checkedSpan r p))) ∧
      HoldsAt t (a + (2 + (checkedSpan r p).length + fieldWidth r)) stopMarker := by
  simp only [composeFrame, holdsAt_append_iff, List.length_append, checksumField_length] at hframe
  obtain ⟨⟨⟨hstart, hspan⟩, hck⟩, hstop⟩ := hframe
  exact ⟨hstart, hspan, hck, hstop⟩

/-- (a): START_MARKER. -/
theorem startMarker_of_frame : bufByte t a = 0xDD ∧ bufByte t (a + 1) = 0x01 :=
  (holdsAt_pair_iff ..).1 (holdsAt_frame_parts hframe).1

/-- The checksummed span begins with the message id, then the length field. -/
theorem holdsAt_span_parts :
    bufByte t (a + 2) = r.descMsgid ∧ HoldsAt t (a + 3) (lengthField r (frameBody r p).length) := by
  obtain ⟨_, hspan, _⟩ := holdsAt_frame_parts hframe
  unfold checkedSpan at hspan
  rw [List.append_assoc, List.singleton_append, holdsAt_cons_iff, holdsAt_append_iff] at hspan
  obtain ⟨hid, hlen, _⟩ := hspan
  exact ⟨hid, hlen⟩

/-- (c) in short format: a length that fits in a byte is read back. -/
theorem length_of_short_frame (hshort : isLong r = false) (hmax : (frameBody r p).length ≤ 0xFF) :
    (bufByte t (a + 3)).toNat = (frameBody r p).length := by
  obtain ⟨_, hlen⟩ := holdsAt_span_parts hframe
  rw [lengthField_short hshort, holdsAt_cons_iff] at hlen
  rw [hlen.1, BitVec.toNat_ofNat, Nat.mod_eq_of_lt (by omega)]

/-- (c) in long format: a length that fits in two bytes is read back. -/
theorem length_of_long_frame (hlong : isLong r = true) (hmax : (frameBody r p).length ≤ 0xFFFF) :
    256 * (bufByte t (a + 3)).toNat + (bufByte t (a + 4)).toNat = (frameBody r p).length := by
  obtain ⟨_, hlen⟩ := holdsAt_span_parts hframe
  rw [lengthField_long hlong, holdsAt_pair_iff] at hlen
  obtain ⟨hhigh, hlow⟩ := hlen
  rw [hhigh, hlow, BitVec.toNat_ofNat, BitVec.toNat_ofNat]
  omega

include htot

/-- (a): STOP_MARKER. -/
theorem stopMarker_of_frame : bufByte t (a + (tot - 2)) = 0xDD ∧ bufByte t (a + (tot - 1)) = 0x02 := by
  obtain ⟨_, _, _, hstop⟩ := holdsAt_frame_parts hframe
  rw [stopMarker, holdsAt_pair_iff, checkedSpan_length] at hstop
  rw [composeFrame_length_eq] at htot
  have hfirst : 2 + (1 + fieldWidth r + (frameBody r p).length) + fieldWidth r = tot - 2 := by omega
  have hsecond : tot - 2 + 1 = tot - 1 := by omega
  rwa [hfirst, Nat.add_assoc, hsecond] at hstop

/-- The span that (d) recomputes the checksum over is the checksummed span. -/
theorem memRead_checkedSpan_of_frame : memRead t (a + 2) (tot - 4 - fieldWidth r) = checkedSpan r p := by
  obtain ⟨_, hspan, _⟩ := holdsAt_frame_parts hframe
  rw [composeFrame_length_eq] at htot
  exact hspan.memRead_eq (by rw [checkedSpan_length]; omega)

/-- (d) in short format. -/
theorem checksum_of_short_frame (hshort : isLong r = false) :
    bufByte t (a + (tot - 3)) = xor8 (checkedSpan r p) := by
  obtain ⟨_, _, hck, _⟩ := holdsAt_frame_parts hframe
  rw [checksumOf_short hshort, checksumField_short hshort, holdsAt_cons_iff, checkedSpan_length,
    fieldWidth_short hshort] at hck
  rw [composeFrame_length_eq, fieldWidth_short hshort] at htot
  have hoff : 2 + (1 + 1 + (frameBody r p).length) = tot - 3 := by omega
  rw [hoff] at hck
  exact hck.1

/-- (e): the checksum is its own inverse. -/
theorem xor8_of_short_frame (hshort : isLong r = false) : xor8 (memRead t (a + 2) (tot - 4)) = 0 := by
  rw [composeFrame_short p hshort, List.append_assoc startMarker, holdsAt_append_iff, holdsAt_append_iff] at hframe
  obtain ⟨⟨_, hspan⟩, _⟩ := hframe
  have hlen : tot - 4 = (checkedSpan r p ++ [xor8 (checkedSpan r p)]).length := by
    rw [htot, composeFrame_length_eq, fieldWidth_short hshort, List.length_append, checkedSpan_length,
      fieldWidth_short hshort, List.length_singleton]
    omega
  have hread : memRead t (a + 2) (tot - 4) = checkedSpan r p ++ [xor8 (checkedSpan r p)] := hspan.memRead_eq hlen
  rw [hread, xor8_append_own_xor8]

/-- (d) in long format: the CRC is sent low byte first. -/
theorem checksum_of_long_frame (hlong : isLong r = true) :
    bufByte t (a + (tot - 3)) ++ bufByte t (a + (tot - 4)) = crcOf r (checkedSpan r p) := by
  obtain ⟨_, _, hck, _⟩ := holdsAt_frame_parts hframe
  rw [checksumOf_long hlong, checksumField_long hlong, halfLE, holdsAt_pair_iff, checkedSpan_length,
    fieldWidth_long hlong] at hck
  rw [composeFrame_length_eq, fieldWidth_long hlong] at htot
  have hlow : 2 + (1 + 2 + (frameBody r p).length) = tot - 4 := by omega
  have hhigh : tot - 4 + 1 = tot - 3 := by omega
  rw [hlow, Nat.add_assoc, hhigh] at hck
  rw [hck.1, hck.2, extractLsb'_append_self]

end FrameInBuf

/-! ## A success of the builder wrote a frame (42_frame_builder.md R187, R188) -/

/-- Whatever state a success ends in satisfies P. -/
def onSuccess (P : State → Prop) (x : Result) : Prop := ∀ t, x = .next t → t.regs.status.errCode = 0 → P t

section Command

variable {P : State → Prop} {s : State}

theorem onSuccess_raised (e : ErrorKind) (x a : Word) : onSuccess P (raised e x a s) := by
  intro t heq hcode
  cases heq
  exact absurd hcode (errorCode_range e).1

theorem onSuccess_guard {c : Prop} [Decidable c] {e : ErrorKind} {x a : Word} {go : Result}
    (hgo : ¬c → onSuccess P go) : onSuccess P (if c then raised e x a s else go) := by
  split
  · exact onSuccess_raised e x a
  · next hc => exact hgo hc

/-- What follows a span check may use that the span lies in BUF. -/
theorem onSuccess_checkSpan {off len : Nat} {go : Result} (hgo : off + len ≤ s.cfg.bufSize → onSuccess P go) :
    onSuccess P (checkSpan s off len go) := by
  rcases checkSpan_cases s off len go with ⟨hspan, heq⟩ | ⟨_, heq⟩
  · rw [heq]
    exact hgo hspan
  · rw [heq]
    exact onSuccess_raised _ _ _

theorem onSuccess_completed (h : P (complete s)) : onSuccess P (completed s) := by
  intro t heq _
  cases heq
  exact h

end Command

/-- t is s with the frame of a payload written, which passed the builder's checks. -/
structure WroteFrame (s : State) (payload : List Byte) (t : State) : Prop where
  fits : FrameFits s (frameBody s.regs payload).length
  state_eq : t = s.withFrame (frameBody s.regs payload).length payload

/-- The builder's tail succeeds only with a frame that fits, written. -/
theorem onSuccess_emitFrame {s : State} {n : Nat} {payload : List Byte}
    (hn : n = fieldWidth s.regs + tableWidth s.regs + payload.length) :
    onSuccess (WroteFrame s payload) (emitFrame s n payload) := by
  rw [← frameBody_length] at hn
  subst hn
  exact onSuccess_guard fun hmax => onSuccess_guard fun hframe => onSuccess_checkSpan fun hspan =>
    onSuccess_completed ⟨⟨Nat.le_of_not_lt hmax, Nat.le_of_not_lt hframe, hspan⟩, rfl⟩

theorem onSuccess_exec_build (s : State) :
    onSuccess (WroteFrame s (memRead s s.regs.payOff.toNat s.regs.payLen.toNat)) (exec .build s) :=
  onSuccess_guard fun _ => onSuccess_checkSpan fun _ => onSuccess_emitFrame (buildLength_eq s)

/-- BUILD_REC succeeds in long format only. -/
theorem onSuccess_exec_buildRec (s : State) :
    onSuccess (fun t => isLong s.regs = true ∧ WroteFrame s (recordPayload s s.regs.chCnt.toNat) t)
      (exec .buildRec s) := by
  refine onSuccess_guard fun hnot => onSuccess_guard fun _ => onSuccess_guard fun _ => onSuccess_checkSpan fun _ =>
    onSuccess_checkSpan fun _ => onSuccess_checkSpan fun _ => fun t heq hcode => ?_
  have hlong : isLong s.regs = true := by simpa using hnot
  exact ⟨hlong, onSuccess_emitFrame (buildRecLength_eq hlong) t heq hcode⟩

section Wrote

variable {s t : State} {p : List Byte} (h : WroteFrame s p t)
include h

theorem WroteFrame.holdsAt : HoldsAt t s.regs.txOff.toNat (composeFrame s.regs p) := by
  rw [h.state_eq]
  exact memRead_complete_memWrite _ _ _

/-- TX_LEN holds the frame's length, which FRAME_MAX keeps below 2^16. -/
theorem WroteFrame.txLen_eq : t.regs.txLen.toNat = (composeFrame s.regs p).length := by
  have hlt := Nat.lt_of_le_of_lt h.fits.frameMax s.regs.frameMax.isLt
  rw [h.state_eq, composeFrame_length, ← frameBody_length]
  exact (BitVec.toNat_ofNat ..).trans (Nat.mod_eq_of_lt hlt)

theorem WroteFrame.length_le_of_short (hshort : isLong s.regs = false) : (frameBody s.regs p).length ≤ 0xFF := by
  have hmax := h.fits.length
  rw [lengthMax, hshort] at hmax
  exact hmax

theorem WroteFrame.length_le_of_long (hlong : isLong s.regs = true) : (frameBody s.regs p).length ≤ 0xFFFF := by
  have hmax := h.fits.length
  rw [lengthMax, if_pos hlong] at hmax
  exact hmax

end Wrote

theorem exists_wroteFrame {i : Instr} {s t : State} (hi : i = .build ∨ i = .buildRec) (hexec : exec i s = .next t)
    (hcode : t.regs.status.errCode = 0) :
    ∃ p, WroteFrame s p t ∧ (i = .buildRec → isLong s.regs = true ∧ p.length = 7 * s.regs.chCnt.toNat) := by
  rcases hi with rfl | rfl
  · exact ⟨_, onSuccess_exec_build s t hexec hcode, nofun⟩
  · obtain ⟨hlong, hwrote⟩ := onSuccess_exec_buildRec s t hexec hcode
    exact ⟨_, hwrote, fun _ => ⟨hlong, recordPayload_length ..⟩⟩

/-- Settles O41: a success wrote the frame of some payload, and the laws are read off its parts. -/
theorem everyBuiltFrameObeysTheFrameLaws : Obligations.EveryBuiltFrameObeysTheFrameLaws := by
  unfold Obligations.EveryBuiltFrameObeysTheFrameLaws
  rintro i s t tx tot ckw hi hexec hcode rfl rfl rfl
  obtain ⟨p, hwrote, hrec⟩ := exists_wroteFrame hi hexec hcode
  have hframe := hwrote.holdsAt
  have htot := hwrote.txLen_eq
  obtain ⟨hstart₀, hstart₁⟩ := startMarker_of_frame hframe
  obtain ⟨hstop₀, hstop₁⟩ := stopMarker_of_frame hframe htot
  obtain ⟨hid, _⟩ := holdsAt_span_parts hframe
  have hspan := memRead_checkedSpan_of_frame hframe htot
  refine ⟨hstart₀, hstart₁, hstop₀, hstop₁, hid, fun hshort => ⟨?_, ?_, xor8_of_short_frame hframe htot hshort⟩,
    fun hlong => ⟨?_, ?_⟩, fun hbuildRec => ?_⟩
  · rw [length_of_short_frame hframe hshort (hwrote.length_le_of_short hshort), htot, composeFrame_length_eq,
      fieldWidth_short hshort, Nat.add_sub_cancel_left]
  · exact (congrArg xor8 hspan).trans (checksum_of_short_frame hframe htot hshort).symm
  · rw [length_of_long_frame hframe hlong (hwrote.length_le_of_long hlong), htot, composeFrame_length_eq,
      fieldWidth_long hlong, Nat.add_sub_cancel_left]
  · exact (congrArg (crcOf s.regs) hspan).trans (checksum_of_long_frame hframe htot hlong).symm
  · obtain ⟨hlong, hm⟩ := hrec hbuildRec
    change _ = 9 + (7 * _ + 2 + tableWidth s.regs)
    rw [htot, composeFrame_length_eq, frameBody_length, fieldWidth_long hlong, hm]
    omega

/-! ## PARSE of a frame under its own descriptor (43_response_validator.md R213, R214, R219) -/

/-- A frame's command field makes it long enough for a result byte. -/
theorem minFrame_le_of_frame {r : Regs} {p : List Byte} (hlen : rxN r = (composeFrame r p).length)
    (hoff : r.resultOff = 0) : minFrame r ≤ rxN r := by
  have hfw := fieldWidth_pos r
  have hzero : r.resultOff.toNat = 0 := congrArg BitVec.toNat hoff
  rw [minFrame_eq, hzero, hlen, composeFrame_length_eq, frameBody_length]
  omega

section Received

variable {v : State} {p : List Byte} (hframe : HoldsAt v v.regs.rxOff.toNat (composeFrame v.regs p))
  (hlen : rxN v.regs = (composeFrame v.regs p).length)
include hframe

theorem rxStart_of_frame : rxStart v = 0xDD01 := by
  obtain ⟨hhigh, hlow⟩ := startMarker_of_frame hframe
  exact congrArg₂ joinBytes hhigh hlow

theorem rxByte_two_of_frame : rxByte v 2 = v.regs.descMsgid := (holdsAt_span_parts hframe).1

include hlen

theorem rxStop_of_frame : rxStop v = 0xDD02 := by
  obtain ⟨hhigh, hlow⟩ := stopMarker_of_frame hframe hlen
  exact congrArg₂ joinBytes hhigh hlow

theorem rxCalc_of_frame : rxCalc v = checksumOf v.regs (checkedSpan v.regs p) :=
  congrArg (checksumOf v.regs) (memRead_checkedSpan_of_frame hframe hlen)

/-- The checksum received is the checksum computed. -/
theorem rxCalc_eq_rxReceived_of_frame : rxCalc v = rxReceived v := by
  rw [rxCalc_of_frame hframe hlen, rxReceived]
  cases hfmt : isLong v.regs with
  | false =>
    rw [checksumOf_short hfmt, ← checksum_of_short_frame hframe hlen hfmt]
    rfl
  | true =>
    rw [checksumOf_long hfmt, ← checksum_of_long_frame hframe hlen hfmt]
    rfl

/-- PARSE gets as far as the result byte. -/
theorem exec_parse_of_frame (hspan : v.regs.rxOff.toNat + rxN v.regs ≤ v.cfg.bufSize)
    (hoff : v.regs.resultOff = 0) :
    exec .parse v =
      if rxByte v (resultAt v.regs) ≠ v.regs.okCode then
        raised .deviceRejected (v.regs.okCode.setWidth 32) ((rxByte v (resultAt v.regs)).setWidth 32) v
      else if rlenEn v.regs && rxDeclared v != v.regs.descResplen then
        raised .lengthMismatch (v.regs.descResplen.setWidth 32) ((rxDeclared v).setWidth 32) v
      else completed (extractData v) := by
  have hmin : ¬rxN v.regs < minFrame v.regs := Nat.not_lt.2 (minFrame_le_of_frame hlen hoff)
  have hck : ¬(rxckEn v.regs && rxCalc v != rxReceived v) = true := by
    simp [rxCalc_eq_rxReceived_of_frame hframe hlen]
  change execParse v = _
  rw [execParse, checkSpan_pass _ _ _ _ hspan, if_neg hmin, if_neg (not_not.2 (rxStart_of_frame hframe)),
    if_neg (not_not.2 (rxStop_of_frame hframe hlen)), if_neg hck, if_neg (not_not.2 (rxByte_two_of_frame hframe))]

end Received

/-- Two register files agree on what a frame depends on: the descriptor, the command word's masks and the CRC's
parameters. -/
structure SameDescriptor (r r' : Regs) : Prop where
  cfg : r.descCfg = r'.descCfg
  msgid : r.descMsgid = r'.descMsgid
  cmd : r.descCmd = r'.descCmd
  tbl : r.descTbl = r'.descTbl
  flags : r.cmdwFlags = r'.cmdwFlags
  crc : r.crcCfg = r'.crcCfg

theorem SameDescriptor.composeFrame_eq {r r' : Regs} (h : SameDescriptor r r') (p : List Byte) :
    composeFrame r p = composeFrame r' p := by
  have hlong : isLong r = isLong r' := congrArg (·.getLsbD 0) h.cfg
  have htable : hasTable r = hasTable r' := congrArg (·.getLsbD 1) h.cfg
  have hbody : frameBody r p = frameBody r' p := by
    unfold frameBody commandField commandWord tableField longMask tblMask
    rw [hlong, htable, h.cmd, h.tbl, h.flags]
  have hspan : checkedSpan r p = checkedSpan r' p := by
    unfold checkedSpan lengthField
    rw [hbody, hlong, h.msgid]
  unfold composeFrame checksumField checksumOf crcOf crcInit crcXorout
  rw [hspan, hlong, h.crc]

/-- t with its last frame, at TX_OFF, as the response to validate. -/
def State.receivingOwnFrame (t : State) : State :=
  { t with regs := { t.regs with rxOff := t.regs.txOff, rxLen := t.regs.txLen, resultOff := 0 } }

theorem holdsAt_receivingOwnFrame_iff (t : State) (a : Nat) (bs : List Byte) :
    HoldsAt t.receivingOwnFrame a bs ↔ HoldsAt t a bs := Iff.rfl

section Wrote

variable {s t : State} {p : List Byte} (h : WroteFrame s p t)
include h

theorem WroteFrame.composeFrame_received : composeFrame t.receivingOwnFrame.regs p = composeFrame s.regs p := by
  refine SameDescriptor.composeFrame_eq ?_ p
  rw [h.state_eq]
  constructor <;> simp [State.receivingOwnFrame, State.withFrame]

theorem WroteFrame.rxOff_received : t.receivingOwnFrame.regs.rxOff = s.regs.txOff := by
  rw [h.state_eq]; rfl

theorem WroteFrame.holdsAt_received :
    HoldsAt t.receivingOwnFrame t.receivingOwnFrame.regs.rxOff.toNat (composeFrame t.receivingOwnFrame.regs p) := by
  rw [holdsAt_receivingOwnFrame_iff, h.rxOff_received, h.composeFrame_received]
  exact h.holdsAt

theorem WroteFrame.rxN_received :
    rxN t.receivingOwnFrame.regs = (composeFrame t.receivingOwnFrame.regs p).length := by
  rw [h.composeFrame_received]
  exact h.txLen_eq

theorem WroteFrame.span_received :
    t.receivingOwnFrame.regs.rxOff.toNat + rxN t.receivingOwnFrame.regs ≤ t.receivingOwnFrame.cfg.bufSize := by
  have hcfg : t.receivingOwnFrame.cfg = s.cfg := by rw [h.state_eq]; rfl
  rw [h.rxOff_received, h.rxN_received, h.composeFrame_received, composeFrame_length, ← frameBody_length, hcfg]
  exact h.fits.span

end Wrote

/-- Settles O44: only the result byte and the declared length are left to check. -/
theorem parseFindsNoFramingFaultInABuiltFrame : Obligations.ParseFindsNoFramingFaultInABuiltFrame := by
  unfold Obligations.ParseFindsNoFramingFaultInABuiltFrame
  intro s t hexec hcode
  have hwrote := onSuccess_exec_build s t hexec hcode
  have hframe := hwrote.holdsAt_received
  have hlen := hwrote.rxN_received
  have hmsgid : t.regs.descMsgid = s.regs.descMsgid := by rw [hwrote.state_eq]; rfl
  change ∃ u, exec .parse t.receivingOwnFrame = .next u ∧ _
  rw [exec_parse_of_frame hframe hlen hwrote.span_received rfl]
  split
  · exact ⟨_, rfl, .inr (.inr rfl), nofun⟩
  · split
    · exact ⟨_, rfl, .inr (.inl rfl), nofun⟩
    · refine ⟨_, rfl, .inl rfl, fun _ => ⟨?_, ?_⟩⟩
      · exact (rxCalc_eq_rxReceived_of_frame hframe hlen).symm
      · exact (rxByte_two_of_frame hframe).trans hmsgid

end Sys2Proof.Machine
end

section
/-! SUPPORT. The response validator (43_response_validator.md): where the fields of a frame lie in each format (R210 to
R217), and PARSE as R211's chain of check states, each of which raises or passes on to the next (R212 to R219). -/

namespace Sys2Proof.Machine

/-! ## The fields of a response frame (R210, R213, R214, R217) -/

theorem toNat_joinBytes (hi lo : Byte) : (joinBytes hi lo).toNat = 256 * hi.toNat + lo.toNat := by
  rw [joinBytes, toNat_append_eq_add]; omega

theorem resultAt_short {r : Regs} (hshort : isLong r = false) : resultAt r = 4 + r.resultOff.toNat := by
  rw [resultAt, fieldWidth_short hshort]

theorem resultAt_long {r : Regs} (hlong : isLong r = true) : resultAt r = 5 + r.resultOff.toNat := by
  rw [resultAt, fieldWidth_long hlong]

theorem minFrame_short {r : Regs} (hshort : isLong r = false) : minFrame r = 8 + r.resultOff.toNat := by
  rw [minFrame_eq, fieldWidth_short hshort]

theorem minFrame_long {r : Regs} (hlong : isLong r = true) : minFrame r = 10 + r.resultOff.toNat := by
  rw [minFrame_eq, fieldWidth_long hlong]

section Fields

variable {s : State}

theorem rxDeclared_short (hshort : isLong s.regs = false) : rxDeclared s = (rxByte s 3).setWidth 16 := by
  rw [rxDeclared, hshort]; rfl

theorem rxDeclared_long (hlong : isLong s.regs = true) : rxDeclared s = joinBytes (rxByte s 3) (rxByte s 4) := by
  rw [rxDeclared, if_pos hlong]

theorem rxReceived_short (hshort : isLong s.regs = false) :
    rxReceived s = (rxByte s (rxN s.regs - 3)).setWidth 16 := by
  rw [rxReceived, hshort]; rfl

theorem rxReceived_long (hlong : isLong s.regs = true) :
    rxReceived s = joinBytes (rxByte s (rxN s.regs - 3)) (rxByte s (rxN s.regs - 4)) := by
  rw [rxReceived, if_pos hlong]

/-- The checksummed bytes end before the XOR byte and the stop marker. -/
theorem rxCalc_short (hshort : isLong s.regs = false) :
    rxCalc s = (xor8 (memRead s (s.regs.rxOff.toNat + 2) (rxN s.regs - 5))).setWidth 16 := by
  rw [rxCalc, checksumOf_short hshort, rxSpan, fieldWidth_short hshort, Nat.sub_sub]

/-- The checksummed bytes end before the CRC's two bytes and the stop marker. -/
theorem rxCalc_long (hlong : isLong s.regs = true) :
    rxCalc s = crcOf s.regs (memRead s (s.regs.rxOff.toNat + 2) (rxN s.regs - 6)) := by
  rw [rxCalc, checksumOf_long hlong, rxSpan, fieldWidth_long hlong, Nat.sub_sub]

end Fields

/-- Settles O42: the fields of each format, two-byte fields as joined bytes. -/
theorem responseFieldsLieWhereTheFormatSays : Obligations.ResponseFieldsLieWhereTheFormatSays := by
  unfold Obligations.ResponseFieldsLieWhereTheFormatSays
  rintro s o n rfl rfl
  refine ⟨toNat_joinBytes _ _, toNat_joinBytes _ _, fun hshort => ?_, fun hlong => ?_⟩
  · exact ⟨resultAt_short hshort, minFrame_short hshort, rxDeclared_short hshort, rxReceived_short hshort,
      rxCalc_short hshort⟩
  · refine ⟨resultAt_long hlong, minFrame_long hlong, ?_, ?_, rxCalc_long hlong⟩
    · rw [rxDeclared_long hlong]
      exact toNat_joinBytes _ _
    · rw [rxReceived_long hlong, Nat.add_comm]
      exact toNat_joinBytes _ _

/-! ## PARSE as a chain of check states (R211) -/

/-- CheckDeclaredLength (R217), only with RLEN_EN, then ExtractData (R218). -/
def checkDeclaredLength (s : State) : Result :=
  if rlenEn s.regs && rxDeclared s != s.regs.descResplen then
    raised .lengthMismatch (s.regs.descResplen.setWidth 32) ((rxDeclared s).setWidth 32) s
  else completed (extractData s)

/-- CheckResult (R216) and the states after it. -/
def checkResult (s : State) : Result :=
  if rxByte s (resultAt s.regs) ≠ s.regs.okCode then
    raised .deviceRejected (s.regs.okCode.setWidth 32) ((rxByte s (resultAt s.regs)).setWidth 32) s
  else checkDeclaredLength s

/-- CheckMessageId (R215) and the states after it. -/
def checkMessageId (s : State) : Result :=
  if rxByte s 2 ≠ s.regs.descMsgid then
    raised .messageIdMismatch (s.regs.descMsgid.setWidth 32) ((rxByte s 2).setWidth 32) s
  else checkResult s

/-- CheckChecksum (R214), only with RXCK_EN, and the states after it. -/
def checkChecksum (s : State) : Result :=
  if rxckEn s.regs && rxCalc s != rxReceived s then
    raised .checksumError ((rxCalc s).setWidth 32) ((rxReceived s).setWidth 32) s
  else checkMessageId s

/-- CheckMarkers (R213) and the states after it. -/
def checkMarkers (s : State) : Result :=
  if rxN s.regs < minFrame s.regs then raised .framingError (u32 (minFrame s.regs)) (u32 (rxN s.regs)) s
  else if rxStart s ≠ 0xDD01 then raised .framingError 0xDD01 ((rxStart s).setWidth 32) s
  else if rxStop s ≠ 0xDD02 then raised .framingError 0xDD02 ((rxStop s).setWidth 32) s
  else checkChecksum s

/-- PARSE is its span check (R212) and the chain. -/
theorem exec_parse_eq_checks (s : State) :
    exec .parse s = checkSpan s s.regs.rxOff.toNat s.regs.rxLen.toNat (checkMarkers s) := rfl

/-- The parsed fields in the statements' words (R218, R252). -/
theorem completed_extractData_eq (s : State) :
    completed (extractData s) = .next { s with regs :=
      { okRegs s with
        dataOff := BitVec.ofNat 16 (s.regs.rxOff.toNat + resultAt s.regs + 1)
        dataLen := BitVec.ofNat 16 (rxN s.regs - resultAt s.regs - 3 - fieldWidth s.regs)
        rxMsgid := rxByte s 2
        rxResult := rxByte s (resultAt s.regs)
        rxDeclLen := rxDeclared s
        rxCksum := rxReceived s
        rxCksumCalc := rxCalc s } } := rfl

/-- A comparison that runs only when its enable bit is set finds a difference. -/
theorem gated_bne_iff {en : Bool} {x y : Half} : (en && x != y) = true ↔ en = true ∧ x ≠ y := by
  rw [Bool.and_eq_true, bne_iff_ne]

/-- Such a comparison passes. -/
theorem gated_bne_false {en : Bool} {x y : Half} (h : en = true → x = y) : ¬(en && x != y) = true :=
  fun hfail => (gated_bne_iff.1 hfail).2 (h (gated_bne_iff.1 hfail).1)

section Checks

variable {s : State}

theorem checkMarkers_of_lt_minFrame (h : rxN s.regs < minFrame s.regs) : checkMarkers s =
    .next (failState s 5 (BitVec.ofNat 32 (minFrame s.regs)) (BitVec.ofNat 32 (rxN s.regs))) :=
  if_pos h

theorem checkMarkers_of_start_ne (hmin : minFrame s.regs ≤ rxN s.regs) (h : rxStart s ≠ 0xDD01) :
    checkMarkers s = .next (failState s 5 0xDD01 ((rxStart s).setWidth 32)) :=
  (if_neg (Nat.not_lt.2 hmin)).trans (if_pos h)

theorem checkMarkers_of_stop_ne (hmin : minFrame s.regs ≤ rxN s.regs) (hstart : rxStart s = 0xDD01)
    (h : rxStop s ≠ 0xDD02) : checkMarkers s = .next (failState s 5 0xDD02 ((rxStop s).setWidth 32)) :=
  ((if_neg (Nat.not_lt.2 hmin)).trans (if_neg (not_not.2 hstart))).trans (if_pos h)

theorem checkMarkers_pass (hmin : minFrame s.regs ≤ rxN s.regs) (hstart : rxStart s = 0xDD01)
    (hstop : rxStop s = 0xDD02) : checkMarkers s = checkChecksum s :=
  ((if_neg (Nat.not_lt.2 hmin)).trans (if_neg (not_not.2 hstart))).trans (if_neg (not_not.2 hstop))

theorem checkChecksum_of_ne (hen : rxckEn s.regs = true) (h : rxCalc s ≠ rxReceived s) :
    checkChecksum s = .next (failState s 9 ((rxCalc s).setWidth 32) ((rxReceived s).setWidth 32)) :=
  if_pos (gated_bne_iff.2 ⟨hen, h⟩)

theorem checkChecksum_pass (h : rxckEn s.regs = true → rxCalc s = rxReceived s) :
    checkChecksum s = checkMessageId s :=
  if_neg (gated_bne_false h)

theorem checkMessageId_of_ne (h : rxByte s 2 ≠ s.regs.descMsgid) :
    checkMessageId s = .next (failState s 6 (s.regs.descMsgid.setWidth 32) ((rxByte s 2).setWidth 32)) :=
  if_pos h

theorem checkMessageId_pass (h : rxByte s 2 = s.regs.descMsgid) : checkMessageId s = checkResult s :=
  if_neg (not_not.2 h)

theorem checkResult_of_ne (h : rxByte s (resultAt s.regs) ≠ s.regs.okCode) : checkResult s =
    .next (failState s 8 (s.regs.okCode.setWidth 32) ((rxByte s (resultAt s.regs)).setWidth 32)) :=
  if_pos h

theorem checkResult_pass (h : rxByte s (resultAt s.regs) = s.regs.okCode) : checkResult s = checkDeclaredLength s :=
  if_neg (not_not.2 h)

theorem checkDeclaredLength_of_ne (hen : rlenEn s.regs = true) (h : rxDeclared s ≠ s.regs.descResplen) :
    checkDeclaredLength s =
      .next (failState s 7 (s.regs.descResplen.setWidth 32) ((rxDeclared s).setWidth 32)) :=
  if_pos (gated_bne_iff.2 ⟨hen, h⟩)

theorem checkDeclaredLength_pass (h : rlenEn s.regs = true → rxDeclared s = s.regs.descResplen) :
    checkDeclaredLength s = completed (extractData s) :=
  if_neg (gated_bne_false h)

end Checks

/-- Settles O43: state by state, each check raises or leaves PARSE to the next one. -/
theorem parseReportsTheFirstFailingCheck : Obligations.ParseReportsTheFirstFailingCheck := by
  unfold Obligations.ParseReportsTheFirstFailingCheck
  refine ⟨(decode_eq_ok_iff _ .parse).2 rfl, ?_⟩
  rintro s o n rfl rfl
  rw [exec_parse_eq_checks]
  refine ⟨fun h => checkSpan_eq_outOfRange h _, fun hspan => ?_⟩
  rw [checkSpan_pass _ _ _ _ hspan]
  refine ⟨checkMarkers_of_lt_minFrame, fun hmin => ⟨checkMarkers_of_start_ne hmin, checkMarkers_of_stop_ne hmin,
    fun hstart hstop => ?_⟩⟩
  rw [checkMarkers_pass hmin hstart hstop]
  refine ⟨checkChecksum_of_ne, fun hck => ?_⟩
  rw [checkChecksum_pass hck]
  refine ⟨checkMessageId_of_ne, fun hid hres => ?_, fun hid hres => ?_⟩
  · rw [checkMessageId_pass hid]
    exact checkResult_of_ne hres
  · rw [checkMessageId_pass hid, checkResult_pass hres]
    refine ⟨checkDeclaredLength_of_ne, fun hlen => ?_⟩
    rw [checkDeclaredLength_pass hlen]
    exact completed_extractData_eq s

end Sys2Proof.Machine
end

section
/-! SUPPORT. Control commands (44_control.md): what NOP (R240) and SRESET (R241) answer, and what the host reads of the
registers after SRESET. -/

namespace Sys2Proof.Machine

/-- NOP is a completion with no outputs. -/
theorem exec_nop (s : State) : exec .nop s = .next (complete s) := rfl

/-- Settles O9: a bare completion, in the statements' words, is okRegs. -/
theorem nopOnlyCompletes : Obligations.NopOnlyCompletes := by
  unfold Obligations.NopOnlyCompletes
  refine ⟨(decode_eq_ok_iff _ .nop).2 rfl, fun s => ?_⟩
  rw [exec_nop, complete_eq_okRegs]

/-- s with its registers at their reset values, as the completion of SRESET then leaves STATUS (R241, R252). -/
def State.afterSreset (s : State) : State :=
  { s with regs :=
    { regsReset with
      status := { busy := false, done := true, err := false, errCode := 0, lastOp := s.pending.extractLsb' 0 8 } } }

theorem exec_sreset (s : State) : exec .sreset s = .next s.afterSreset := rfl

/-- STATUS is read at its own offset and at no other (10_state.md R24). -/
theorem mapRead_withStatus_of_ne (s : State) (st : Status) {off : BitVec 17} (hne : off ≠ 0x008) :
    mapRead { s with regs := { s.regs with status := st } } off = mapRead s off := by
  unfold mapRead
  cases h : regAt off.toNat with
  | none => rfl
  | some reg =>
    cases reg with
    | status => exact absurd (BitVec.eq_of_toNat_eq (regAt_eq_some h)) hne
    | _ => rfl

/-- STATUS apart, SRESET leaves the registers of a reset state with the same parameters. -/
theorem mapRead_afterSreset (s : State) {p : BitVec 17 × Word} (hp : p ∈ resetMap s.cfg) (hne : p.1 ≠ 0x008) :
    mapRead s.afterSreset p.1 = p.2 :=
  calc mapRead s.afterSreset p.1
    _ = mapRead { s with regs := regsReset } p.1 := mapRead_withStatus_of_ne { s with regs := regsReset } _ hne
    _ = p.2 := busRead_of_regsReset { s with regs := regsReset } rfl p hp

theorem afterSreset_status (s : State) :
    s.afterSreset.regs.status = ⟨false, true, false, 0, s.pending.extractLsb' 0 8⟩ := rfl

/-- After SRESET's own word, STATUS is DONE and the opcode 0x01 in LASTOP. -/
theorem statusWord_afterSreset {s : State} (h : s.pending = 0x00000001) :
    statusWord s.afterSreset.regs.status = 0x00010002 := by
  rw [afterSreset_status, h]
  decide

/-- DONE raises no interrupt while CTRL.IRQ_EN is 0 (60_exceptions.md R260). -/
theorem irq_of_ctrl_eq_zero {s : State} (h : s.regs.ctrl = 0) : irq s = false := by
  simp [irq, h]

/-- Settles O10: the state after SRESET is a reset one but for STATUS, and new in the registers alone. -/
theorem sresetRestoresEveryRegister : Obligations.SresetRestoresEveryRegister := by
  unfold Obligations.SresetRestoresEveryRegister
  exact ⟨(decode_eq_ok_iff _ .sreset).2 rfl, fun s => ⟨s.afterSreset, exec_sreset s,
    fun _ hp hne => mapRead_afterSreset s hp hne, afterSreset_status s, statusWord_afterSreset, rfl,
    irq_of_ctrl_eq_zero rfl⟩⟩

end Sys2Proof.Machine
end

section
/-! SUPPORT. Exceptions (60_exceptions.md): the engine's step runs the word in PENDING (R251), every command ends in a
completion or in an error of its row (R252 to R255), and the interrupt output (R260). -/

namespace Sys2Proof.Machine

/-! ## How a command ends (60_exceptions.md R252 to R255): one rule per shared operation -/

/-- The result is a completion of a state that still holds the PENDING and the ERR of s, or a raise on s itself of an
error whose code is listed. -/
def completesOrRaises (codes : List (BitVec 4)) (s : State) (x : Result) : Prop :=
  (∃ u, x = completed u ∧ u.pending = s.pending ∧ u.regs.status.err = s.regs.status.err) ∨
    ∃ e exp act, errorCode e ∈ codes ∧ x = raised e exp act s

section Command

variable {codes : List (BitVec 4)} {s : State}

theorem completesOrRaises_completed {u : State} (hpending : u.pending = s.pending)
    (herr : u.regs.status.err = s.regs.status.err) : completesOrRaises codes s (completed u) :=
  .inl ⟨u, rfl, hpending, herr⟩

theorem completesOrRaises_raised {e : ErrorKind} (x a : Word) (he : errorCode e ∈ codes) :
    completesOrRaises codes s (raised e x a s) :=
  .inr ⟨e, x, a, he, rfl⟩

/-- A check of a command's own. -/
theorem completesOrRaises_guard {p : Prop} [Decidable p] {e : ErrorKind} {x a : Word} {go : Result}
    (hgo : completesOrRaises codes s go) (he : errorCode e ∈ codes := by decide) :
    completesOrRaises codes s (if p then raised e x a s else go) := by
  split
  · exact completesOrRaises_raised x a he
  · exact hgo

theorem completesOrRaises_checkSpan {off len : Nat} {go : Result} (hgo : completesOrRaises codes s go)
    (he : errorCode .outOfRange ∈ codes := by decide) : completesOrRaises codes s (checkSpan s off len go) := by
  rcases checkSpan_cases s off len go with ⟨-, heq⟩ | ⟨-, heq⟩ <;> rw [heq]
  · exact hgo
  · exact completesOrRaises_raised _ _ he

theorem completesOrRaises_checkMax {max : Nat} {v : Word} {go : Result} (hgo : completesOrRaises codes s go)
    (he : errorCode .outOfRange ∈ codes := by decide) : completesOrRaises codes s (checkMax s max v go) := by
  rcases checkMax_cases s max v go with ⟨-, heq⟩ | ⟨-, heq⟩ <;> rw [heq]
  · exact hgo
  · exact completesOrRaises_raised _ _ he

theorem completesOrRaises_emitFrame {n : Nat} {payload : List Byte}
    (hspan : errorCode .outOfRange ∈ codes := by decide) (hlarge : errorCode .payloadTooLarge ∈ codes := by decide) :
    completesOrRaises codes s (emitFrame s n payload) :=
  completesOrRaises_guard (he := hlarge) <| completesOrRaises_guard (he := hlarge) <|
    completesOrRaises_checkSpan (he := hspan) (completesOrRaises_completed rfl rfl)

/-- Each check of a command raises a code of the command's row of R255. -/
theorem completesOrRaises_exec {i : Instr} (hi : i ≠ .sreset) : completesOrRaises (mayRaise i) s (exec i s) := by
  cases i with
  | nop | accClr | attEnc => exact completesOrRaises_completed rfl rfl
  | sreset => exact absurd rfl hi
  | xor8 | crc16 | accSpan | put32le | get16le | get32le | get16be =>
    exact completesOrRaises_checkSpan (completesOrRaises_completed rfl rfl)
  | accFeed | unpackTbl | split16 | attDec => exact completesOrRaises_checkMax (completesOrRaises_completed rfl rfl)
  | packTbl | join16 =>
    exact completesOrRaises_checkMax (completesOrRaises_checkMax (completesOrRaises_completed rfl rfl))
  | put16le | put16be =>
    exact completesOrRaises_checkSpan (completesOrRaises_checkMax (completesOrRaises_completed rfl rfl))
  | scale | unscale => exact completesOrRaises_guard (completesOrRaises_completed rfl rfl)
  | build => exact completesOrRaises_guard (completesOrRaises_checkSpan completesOrRaises_emitFrame)
  | buildRec =>
    exact completesOrRaises_guard <| completesOrRaises_guard <| completesOrRaises_guard <|
      completesOrRaises_checkSpan <| completesOrRaises_checkSpan <|
      completesOrRaises_checkSpan completesOrRaises_emitFrame
  | parse =>
    exact completesOrRaises_checkSpan <| completesOrRaises_guard <| completesOrRaises_guard <|
      completesOrRaises_guard <| completesOrRaises_guard <| completesOrRaises_guard <| completesOrRaises_guard <|
      completesOrRaises_guard (completesOrRaises_completed rfl rfl)

end Command

/-- Settles O6: SRESET ends in a completion of the reset registers, every other command as its checks say. -/
theorem everyCompletionIsCleanOrAnAtomicError : Obligations.EveryCompletionIsCleanOrAnAtomicError := by
  unfold Obligations.EveryCompletionIsCleanOrAnAtomicError
  intro i s
  rcases eq_or_ne i .sreset with rfl | hi
  · exact ⟨_, exec_sreset s, .inl ⟨rfl, rfl, rfl, rfl, rfl, rfl, fun hne => absurd rfl hne⟩⟩
  · rcases completesOrRaises_exec (s := s) hi with ⟨u, heq, hpending, herr⟩ | ⟨e, exp, act, hcode, heq⟩
    · exact ⟨complete u, heq, .inl ⟨rfl, rfl, rfl, congrArg opcodeField hpending, rfl, rfl, fun _ => herr⟩⟩
    · exact ⟨raise e exp act s, heq, .inr ⟨errorCode e, hcode, exp, act, raise_eq_failState e exp act s⟩⟩

/-! ## The engine's step (60_exceptions.md R251, R267) -/

/-- What R252 and R253 write to STATUS alike: BUSY 0, DONE 1, and LASTOP from the PENDING of s. -/
def EndsPending (s t : State) : Prop :=
  t.regs.status.busy = false ∧ t.regs.status.done = true ∧ t.regs.status.lastOp = s.pending.extractLsb' 0 8

theorem endsPending_failState (s : State) (code : BitVec 4) (exp act : Word) :
    EndsPending s (failState s code exp act) :=
  ⟨rfl, rfl, rfl⟩

theorem exec_endsPending (i : Instr) (s : State) : ∃ t, exec i s = .next t ∧ EndsPending s t := by
  obtain ⟨t, hexec, ⟨hbusy, hdone, -, hop, -⟩ | ⟨code, -, exp, act, rfl⟩⟩ := everyCompletionIsCleanOrAnAtomicError i s
  · exact ⟨t, hexec, hbusy, hdone, hop⟩
  · exact ⟨_, hexec, endsPending_failState s code exp act⟩

theorem runPending_of_decode_ok {s : State} {i : Instr} (h : decode s.pending = .ok i) : runPending s = exec i s := by
  rw [runPending, h]

theorem runPending_endsPending (s : State) : ∃ t, runPending s = .next t ∧ EndsPending s t := by
  cases h : decode s.pending with
  | ok i =>
    rw [runPending_of_decode_ok h]
    exact exec_endsPending i s
  | error e =>
    obtain ⟨act, hraise⟩ := execIllegal_eq e s
    rw [runPending_of_decode_error h]
    exact ⟨_, hraise, endsPending_failState s (errorCode .illegalCommand) 0 act⟩

/-- Settles O5: while BUSY = 1 the engine runs PENDING, which ends whatever word it holds. -/
theorem engineStepAlwaysCompletes : Obligations.EngineStepAlwaysCompletes := by
  unfold Obligations.EngineStepAlwaysCompletes
  intro s hturn
  refine ⟨fun hbusy => ?_, fun hidle => ?_⟩
  · rw [step_of_busy_engine_turn hturn hbusy]
    exact runPending_endsPending (takeTurn s)
  · rw [step_of_engine_turn hturn, engineTurn, takeTurn_regs, hidle]
    rfl

/-- In the engine's turn a word in PENDING that stands for a command runs that command. -/
theorem step_of_decode_ok {s : State} {i : Instr} (hbusy : s.regs.status.busy = true) (hturn : nextTurn s = .engine)
    (h : decode s.pending = .ok i) : step s = exec i (takeTurn s) :=
  (step_of_busy_engine_turn hturn hbusy).trans (runPending_of_decode_ok (s := takeTurn s) h)

/-- A whole command word is placed as it is. -/
theorem withFetchWord_toNat (s : State) (w : Word) : s.withFetchWord 32 w.toNat = placeCommand w s := by
  rw [State.withFetchWord, Nat.mod_eq_of_lt w.isLt, BitVec.ofNat_toNat, BitVec.setWidth_eq]

/-- The turn that comes with a placed word is the engine's; taken, it leaves the word issued. -/
theorem takeTurn_placeCommand (w : Word) (s : State) : takeTurn (placeCommand w s) = issue w s := rfl

/-- Settles O4: a placed word is in PENDING with BUSY = 1 in the engine's turn, and encode's word decodes back. -/
theorem stepRunsTheDecodedCommand : Obligations.StepRunsTheDecodedCommand := by
  unfold Obligations.StepRunsTheDecodedCommand
  refine ⟨fun s i => step_of_decode_ok, fun s i => ?_⟩
  have hdec : decode (placeCommand (encode i) s).pending = .ok i := (decode_eq_ok_iff _ i).2 rfl
  rw [withFetchWord_toNat, step_of_decode_ok rfl rfl hdec, takeTurn_placeCommand, issue]

/-! ## The interrupt output (60_exceptions.md R260) -/

theorem irq_eq_true_iff (s : State) : irq s = true ↔ s.regs.ctrl.getLsbD 0 = true ∧ s.regs.status.done = true := by
  rw [irq, Bool.and_eq_true]

/-- A host write to STATUS lowers IRQ by its bit 1 and never raises it (10_state.md R24). -/
theorem irq_mapWrite_status (s : State) (v : Word) : irq (mapWrite s 0x008 v) = (irq s && !v.getLsbD 1) :=
  (Bool.and_assoc ..).symm

/-- A host write to CTRL sets IRQ_EN from its bit 0 (10_state.md R23). -/
theorem irq_mapWrite_ctrl (s : State) (v : Word) :
    irq (mapWrite s 0x004 v) = (v.getLsbD 0 && s.regs.status.done) := by
  have hbit : (v.setWidth 2).getLsbD 0 = v.getLsbD 0 := by simp
  rw [← hbit]
  rfl

theorem irq_reply (r : Reply) (s : State) : irq (reply r s) = irq s := rfl

/-- Settles O58: what each of the two writes leaves of IRQ, with the bit that lowers it. -/
theorem irqFollowsEnableAndDone : Obligations.IrqFollowsEnableAndDone := by
  unfold Obligations.IrqFollowsEnableAndDone
  refine ⟨irq_of_ctrl_eq_zero rfl, fun s => ⟨irq_eq_true_iff s, fun v hdone => ?_, fun v hen => ?_⟩⟩
  · refine ⟨_, hostAccess_write_of_regAt s (off := 0x008) v rfl, ?_⟩
    rw [irq_reply, irq_mapWrite_status, hdone, Bool.not_true, Bool.and_false]
  · refine ⟨_, hostAccess_write_of_regAt s (off := 0x004) v rfl, ?_⟩
    rw [irq_reply, irq_mapWrite_ctrl, hen, Bool.false_and]

end Sys2Proof.Machine
end

section
/-! SUPPORT. Reset (70_reset_and_hazards.md): the reset turn's step (R280), and what BUF reads once nothing in it is
written (R281). -/

namespace Sys2Proof.Machine

/-- The reset turn asks nothing of BUSY: a command in progress is discarded with PENDING (R280). -/
theorem step_of_reset_turn {s : State} (h : nextTurn s = .reset) : step s = .next (hardReset (takeTurn s)) := by
  rw [step, turnStep, h]

/-- An unwritten byte is the draw of its reset (R281). -/
theorem bufByte_of_find_eq_none {s : State} {a : Nat} (h : Memory.find s.buf a = none) :
    bufByte s a = Config.bufDraw s.bufEpoch a := by
  rw [bufByte, h]

/-- No byte is a written one after a hardware reset. -/
theorem bufByte_hardReset (s : State) (a : Nat) :
    bufByte (hardReset s) a = Config.bufDraw (hardReset s).bufEpoch a :=
  bufByte_of_find_eq_none (Memory.find_nil a)

theorem statusWord_hardReset (s : State) : statusWord (hardReset s).regs.status = 0 := statusWord_statusReset

/-- IRQ is low since CTRL.IRQ_EN resets to 0 (60_exceptions.md R260). -/
theorem irq_hardReset (s : State) : irq (hardReset s) = false := irq_of_ctrl_eq_zero rfl

/-- Settles O60: the next state is the hardware reset of s, whose registers are those of the reset map. -/
theorem hardwareResetAtAnyTime : Obligations.HardwareResetAtAnyTime := by
  unfold Obligations.HardwareResetAtAnyTime
  intro s hturn
  have hmap : ∀ p ∈ resetMap s.cfg, busRead (hardReset (takeTurn s)) (.reg (regAt p.1.toNat)) .word = p.2 :=
    busRead_of_regsReset _ (hardReset_regs _)
  exact ⟨_, step_of_reset_turn hturn, hmap, statusWord_hardReset _, irq_hardReset _, bufByte_hardReset _, rfl, rfl, rfl⟩

end Sys2Proof.Machine
end
